-- ==== Sys2Proof/Word.lean ====
section
/-! DEFINITION. The two widths of the machine: the 16-bit word and the 15-bit address (rules R6 and R8). -/

namespace Sys2Proof

/-- A word: every register, memory word, ALU operand and ALU result (rule R8, `u16`). -/
abbrev Word := BitVec 16

/-- A word address, of data memory or of the instruction ROM (rule R6, `u15`). -/
abbrev Addr := BitVec 15

end Sys2Proof
end

