-- ==== Sys2Proof/Syntax.lean ====
section
/-! DEFINITION. The instructions as data: one constructor for each row of the opcode table (rules R115 and R117), in
the order: the A-instruction, the 28 named computations in the order of rules R213 to R240, the 100 computations
without a mnemonic (rule R241), the three classes of malformed C words (rule R111). -/

namespace Sys2Proof

/-- The `a` bit, which chooses the ALU's y operand (rule R105). -/
inductive YSource where
  /-- `a = 0`: the A register. -/
  | regA
  /-- `a = 1`: M, the memory word at the address in A. -/
  | mem
deriving DecidableEq, Repr

/-- The six ALU control bits, word bits 11 to 6 in this order (rule R103). -/
structure AluCtl where
  zx : Bool
  nx : Bool
  zy : Bool
  ny : Bool
  f : Bool
  no : Bool
deriving DecidableEq, Repr

/-- The destination field: three independent bits d1, d2, d3, word bits 5 to 3 (rules R103 and R107). -/
structure Dest where
  toA : Bool
  toD : Bool
  toM : Bool
deriving DecidableEq, Repr

/-- The jump field: j1, j2, j3 ask for a jump on a negative, a zero, a positive output; word bits 2 to 0 (rules R103
and R108). -/
structure Jump where
  ifNeg : Bool
  ifZero : Bool
  ifPos : Bool
deriving DecidableEq, Repr

/-- An instruction. -/
inductive Instr where
  /-- `@value`: load a 15-bit constant into A (rule R200). -/
  | atValue (value : Addr)
  /-- `0`: the constant 0 (rule R213). -/
  | zero (dest : Dest) (jump : Jump)
  /-- `1`: the constant 1 (rule R214). -/
  | one (dest : Dest) (jump : Jump)
  /-- `-1`: the constant −1 (rule R215). -/
  | negOne (dest : Dest) (jump : Jump)
  /-- `D`: pass D through (rule R216). -/
  | passD (dest : Dest) (jump : Jump)
  /-- `A`: pass A through (rule R217). -/
  | passA (dest : Dest) (jump : Jump)
  /-- `M`: pass M through (rule R218). -/
  | passM (dest : Dest) (jump : Jump)
  /-- `!D`: complement of D (rule R219). -/
  | notD (dest : Dest) (jump : Jump)
  /-- `!A`: complement of A (rule R220). -/
  | notA (dest : Dest) (jump : Jump)
  /-- `!M`: complement of M (rule R221). -/
  | notM (dest : Dest) (jump : Jump)
  /-- `-D`: negation of D (rule R222). -/
  | negD (dest : Dest) (jump : Jump)
  /-- `-A`: negation of A (rule R223). -/
  | negA (dest : Dest) (jump : Jump)
  /-- `-M`: negation of M (rule R224). -/
  | negM (dest : Dest) (jump : Jump)
  /-- `D+1`: D plus one (rule R225). -/
  | incD (dest : Dest) (jump : Jump)
  /-- `A+1`: A plus one (rule R226). -/
  | incA (dest : Dest) (jump : Jump)
  /-- `M+1`: M plus one (rule R227). -/
  | incM (dest : Dest) (jump : Jump)
  /-- `D-1`: D minus one (rule R228). -/
  | decD (dest : Dest) (jump : Jump)
  /-- `A-1`: A minus one (rule R229). -/
  | decA (dest : Dest) (jump : Jump)
  /-- `M-1`: M minus one (rule R230). -/
  | decM (dest : Dest) (jump : Jump)
  /-- `D+A`: D plus A (rule R231). -/
  | dPlusA (dest : Dest) (jump : Jump)
  /-- `D+M`: D plus M (rule R232). -/
  | dPlusM (dest : Dest) (jump : Jump)
  /-- `D-A`: D minus A (rule R233). -/
  | dMinusA (dest : Dest) (jump : Jump)
  /-- `D-M`: D minus M (rule R234). -/
  | dMinusM (dest : Dest) (jump : Jump)
  /-- `A-D`: A minus D (rule R235). -/
  | aMinusD (dest : Dest) (jump : Jump)
  /-- `M-D`: M minus D (rule R236). -/
  | mMinusD (dest : Dest) (jump : Jump)
  /-- `D&A`: AND of D and A (rule R237). -/
  | dAndA (dest : Dest) (jump : Jump)
  /-- `D&M`: AND of D and M (rule R238). -/
  | dAndM (dest : Dest) (jump : Jump)
  /-- `D|A`: OR of D and A (rule R239). -/
  | dOrA (dest : Dest) (jump : Jump)
  /-- `D|M`: OR of D and M (rule R240). -/
  | dOrM (dest : Dest) (jump : Jump)
  /-- comp 0000001: `!(D&A)` (rule R241). -/
  | comp0000001 (dest : Dest) (jump : Jump)
  /-- comp 0000011: `-D-A-1` (rule R241). -/
  | comp0000011 (dest : Dest) (jump : Jump)
  /-- comp 0000100: `D&!A` (rule R241). -/
  | comp0000100 (dest : Dest) (jump : Jump)
  /-- comp 0000101: `!D|A` (rule R241). -/
  | comp0000101 (dest : Dest) (jump : Jump)
  /-- comp 0000110: `D-A-1` (rule R241). -/
  | comp0000110 (dest : Dest) (jump : Jump)
  /-- comp 0001000: `0` (rule R241). -/
  | comp0001000 (dest : Dest) (jump : Jump)
  /-- comp 0001001: `-1` (rule R241). -/
  | comp0001001 (dest : Dest) (jump : Jump)
  /-- comp 0001010: `D` (rule R241). -/
  | comp0001010 (dest : Dest) (jump : Jump)
  /-- comp 0001011: `!D` (rule R241). -/
  | comp0001011 (dest : Dest) (jump : Jump)
  /-- comp 0010000: `!D&A` (rule R241). -/
  | comp0010000 (dest : Dest) (jump : Jump)
  /-- comp 0010001: `D|!A` (rule R241). -/
  | comp0010001 (dest : Dest) (jump : Jump)
  /-- comp 0010010: `A-D-1` (rule R241). -/
  | comp0010010 (dest : Dest) (jump : Jump)
  /-- comp 0010100: `!(D|A)` (rule R241). -/
  | comp0010100 (dest : Dest) (jump : Jump)
  /-- comp 0010110: `-D-A-2` (rule R241). -/
  | comp0010110 (dest : Dest) (jump : Jump)
  /-- comp 0010111: `D+A+1` (rule R241). -/
  | comp0010111 (dest : Dest) (jump : Jump)
  /-- comp 0011000: `0` (rule R241). -/
  | comp0011000 (dest : Dest) (jump : Jump)
  /-- comp 0011001: `-1` (rule R241). -/
  | comp0011001 (dest : Dest) (jump : Jump)
  /-- comp 0011010: `!D` (rule R241). -/
  | comp0011010 (dest : Dest) (jump : Jump)
  /-- comp 0011011: `D` (rule R241). -/
  | comp0011011 (dest : Dest) (jump : Jump)
  /-- comp 0011100: `!D` (rule R241). -/
  | comp0011100 (dest : Dest) (jump : Jump)
  /-- comp 0011101: `D` (rule R241). -/
  | comp0011101 (dest : Dest) (jump : Jump)
  /-- comp 0011110: `-D-2` (rule R241). -/
  | comp0011110 (dest : Dest) (jump : Jump)
  /-- comp 0100000: `0` (rule R241). -/
  | comp0100000 (dest : Dest) (jump : Jump)
  /-- comp 0100001: `-1` (rule R241). -/
  | comp0100001 (dest : Dest) (jump : Jump)
  /-- comp 0100010: `A` (rule R241). -/
  | comp0100010 (dest : Dest) (jump : Jump)
  /-- comp 0100011: `!A` (rule R241). -/
  | comp0100011 (dest : Dest) (jump : Jump)
  /-- comp 0100100: `0` (rule R241). -/
  | comp0100100 (dest : Dest) (jump : Jump)
  /-- comp 0100101: `-1` (rule R241). -/
  | comp0100101 (dest : Dest) (jump : Jump)
  /-- comp 0100110: `!A` (rule R241). -/
  | comp0100110 (dest : Dest) (jump : Jump)
  /-- comp 0100111: `A` (rule R241). -/
  | comp0100111 (dest : Dest) (jump : Jump)
  /-- comp 0101000: `0` (rule R241). -/
  | comp0101000 (dest : Dest) (jump : Jump)
  /-- comp 0101001: `-1` (rule R241). -/
  | comp0101001 (dest : Dest) (jump : Jump)
  /-- comp 0101011: `-1` (rule R241). -/
  | comp0101011 (dest : Dest) (jump : Jump)
  /-- comp 0101100: `0` (rule R241). -/
  | comp0101100 (dest : Dest) (jump : Jump)
  /-- comp 0101101: `-1` (rule R241). -/
  | comp0101101 (dest : Dest) (jump : Jump)
  /-- comp 0101110: `-1` (rule R241). -/
  | comp0101110 (dest : Dest) (jump : Jump)
  /-- comp 0101111: `0` (rule R241). -/
  | comp0101111 (dest : Dest) (jump : Jump)
  /-- comp 0110100: `!A` (rule R241). -/
  | comp0110100 (dest : Dest) (jump : Jump)
  /-- comp 0110101: `A` (rule R241). -/
  | comp0110101 (dest : Dest) (jump : Jump)
  /-- comp 0110110: `-A-2` (rule R241). -/
  | comp0110110 (dest : Dest) (jump : Jump)
  /-- comp 0111000: `0` (rule R241). -/
  | comp0111000 (dest : Dest) (jump : Jump)
  /-- comp 0111001: `-1` (rule R241). -/
  | comp0111001 (dest : Dest) (jump : Jump)
  /-- comp 0111011: `0` (rule R241). -/
  | comp0111011 (dest : Dest) (jump : Jump)
  /-- comp 0111100: `-1` (rule R241). -/
  | comp0111100 (dest : Dest) (jump : Jump)
  /-- comp 0111101: `0` (rule R241). -/
  | comp0111101 (dest : Dest) (jump : Jump)
  /-- comp 0111110: `-2` (rule R241). -/
  | comp0111110 (dest : Dest) (jump : Jump)
  /-- comp 1000001: `!(D&M)` (rule R241). -/
  | comp1000001 (dest : Dest) (jump : Jump)
  /-- comp 1000011: `-D-M-1` (rule R241). -/
  | comp1000011 (dest : Dest) (jump : Jump)
  /-- comp 1000100: `D&!M` (rule R241). -/
  | comp1000100 (dest : Dest) (jump : Jump)
  /-- comp 1000101: `!D|M` (rule R241). -/
  | comp1000101 (dest : Dest) (jump : Jump)
  /-- comp 1000110: `D-M-1` (rule R241). -/
  | comp1000110 (dest : Dest) (jump : Jump)
  /-- comp 1001000: `0` (rule R241). -/
  | comp1001000 (dest : Dest) (jump : Jump)
  /-- comp 1001001: `-1` (rule R241). -/
  | comp1001001 (dest : Dest) (jump : Jump)
  /-- comp 1001010: `D` (rule R241). -/
  | comp1001010 (dest : Dest) (jump : Jump)
  /-- comp 1001011: `!D` (rule R241). -/
  | comp1001011 (dest : Dest) (jump : Jump)
  /-- comp 1001100: `D` (rule R241). -/
  | comp1001100 (dest : Dest) (jump : Jump)
  /-- comp 1001101: `!D` (rule R241). -/
  | comp1001101 (dest : Dest) (jump : Jump)
  /-- comp 1001110: `D-1` (rule R241). -/
  | comp1001110 (dest : Dest) (jump : Jump)
  /-- comp 1001111: `-D` (rule R241). -/
  | comp1001111 (dest : Dest) (jump : Jump)
  /-- comp 1010000: `!D&M` (rule R241). -/
  | comp1010000 (dest : Dest) (jump : Jump)
  /-- comp 1010001: `D|!M` (rule R241). -/
  | comp1010001 (dest : Dest) (jump : Jump)
  /-- comp 1010010: `M-D-1` (rule R241). -/
  | comp1010010 (dest : Dest) (jump : Jump)
  /-- comp 1010100: `!(D|M)` (rule R241). -/
  | comp1010100 (dest : Dest) (jump : Jump)
  /-- comp 1010110: `-D-M-2` (rule R241). -/
  | comp1010110 (dest : Dest) (jump : Jump)
  /-- comp 1010111: `D+M+1` (rule R241). -/
  | comp1010111 (dest : Dest) (jump : Jump)
  /-- comp 1011000: `0` (rule R241). -/
  | comp1011000 (dest : Dest) (jump : Jump)
  /-- comp 1011001: `-1` (rule R241). -/
  | comp1011001 (dest : Dest) (jump : Jump)
  /-- comp 1011010: `!D` (rule R241). -/
  | comp1011010 (dest : Dest) (jump : Jump)
  /-- comp 1011011: `D` (rule R241). -/
  | comp1011011 (dest : Dest) (jump : Jump)
  /-- comp 1011100: `!D` (rule R241). -/
  | comp1011100 (dest : Dest) (jump : Jump)
  /-- comp 1011101: `D` (rule R241). -/
  | comp1011101 (dest : Dest) (jump : Jump)
  /-- comp 1011110: `-D-2` (rule R241). -/
  | comp1011110 (dest : Dest) (jump : Jump)
  /-- comp 1011111: `D+1` (rule R241). -/
  | comp1011111 (dest : Dest) (jump : Jump)
  /-- comp 1100000: `0` (rule R241). -/
  | comp1100000 (dest : Dest) (jump : Jump)
  /-- comp 1100001: `-1` (rule R241). -/
  | comp1100001 (dest : Dest) (jump : Jump)
  /-- comp 1100010: `M` (rule R241). -/
  | comp1100010 (dest : Dest) (jump : Jump)
  /-- comp 1100011: `!M` (rule R241). -/
  | comp1100011 (dest : Dest) (jump : Jump)
  /-- comp 1100100: `0` (rule R241). -/
  | comp1100100 (dest : Dest) (jump : Jump)
  /-- comp 1100101: `-1` (rule R241). -/
  | comp1100101 (dest : Dest) (jump : Jump)
  /-- comp 1100110: `!M` (rule R241). -/
  | comp1100110 (dest : Dest) (jump : Jump)
  /-- comp 1100111: `M` (rule R241). -/
  | comp1100111 (dest : Dest) (jump : Jump)
  /-- comp 1101000: `0` (rule R241). -/
  | comp1101000 (dest : Dest) (jump : Jump)
  /-- comp 1101001: `-1` (rule R241). -/
  | comp1101001 (dest : Dest) (jump : Jump)
  /-- comp 1101010: `0` (rule R241). -/
  | comp1101010 (dest : Dest) (jump : Jump)
  /-- comp 1101011: `-1` (rule R241). -/
  | comp1101011 (dest : Dest) (jump : Jump)
  /-- comp 1101100: `0` (rule R241). -/
  | comp1101100 (dest : Dest) (jump : Jump)
  /-- comp 1101101: `-1` (rule R241). -/
  | comp1101101 (dest : Dest) (jump : Jump)
  /-- comp 1101110: `-1` (rule R241). -/
  | comp1101110 (dest : Dest) (jump : Jump)
  /-- comp 1101111: `0` (rule R241). -/
  | comp1101111 (dest : Dest) (jump : Jump)
  /-- comp 1110100: `!M` (rule R241). -/
  | comp1110100 (dest : Dest) (jump : Jump)
  /-- comp 1110101: `M` (rule R241). -/
  | comp1110101 (dest : Dest) (jump : Jump)
  /-- comp 1110110: `-M-2` (rule R241). -/
  | comp1110110 (dest : Dest) (jump : Jump)
  /-- comp 1111000: `0` (rule R241). -/
  | comp1111000 (dest : Dest) (jump : Jump)
  /-- comp 1111001: `-1` (rule R241). -/
  | comp1111001 (dest : Dest) (jump : Jump)
  /-- comp 1111010: `-1` (rule R241). -/
  | comp1111010 (dest : Dest) (jump : Jump)
  /-- comp 1111011: `0` (rule R241). -/
  | comp1111011 (dest : Dest) (jump : Jump)
  /-- comp 1111100: `-1` (rule R241). -/
  | comp1111100 (dest : Dest) (jump : Jump)
  /-- comp 1111101: `0` (rule R241). -/
  | comp1111101 (dest : Dest) (jump : Jump)
  /-- comp 1111110: `-2` (rule R241). -/
  | comp1111110 (dest : Dest) (jump : Jump)
  /-- comp 1111111: `1` (rule R241). -/
  | comp1111111 (dest : Dest) (jump : Jump)
  /-- A C word with bits 14 and 13 = 00 (rule R111). -/
  | malformed00 (y : YSource) (ctl : AluCtl) (dest : Dest) (jump : Jump)
  /-- A C word with bits 14 and 13 = 01 (rule R111). -/
  | malformed01 (y : YSource) (ctl : AluCtl) (dest : Dest) (jump : Jump)
  /-- A C word with bits 14 and 13 = 10 (rule R111). -/
  | malformed10 (y : YSource) (ctl : AluCtl) (dest : Dest) (jump : Jump)
deriving DecidableEq, Repr

end Sys2Proof
end

