-- ==== Sys2Proof/WellFormed.lean ====
section
/-! DEFINITION. Which instructions are well formed. The field types admit no value outside an encoding, so an operand
needs no check; what the spec calls well formed is the class of the word (rules R103 and R112). Every instruction,
well formed or not, executes (rule R111). -/

namespace Sys2Proof

/-- The instruction's word is an A word or has bits 15 to 13 = 111: the words the codec produces and accepts
(rules R103, R110 and R112). -/
def Instr.wellFormed (i : Instr) : Bool :=
  match i with
  | .atValue _ => true
  | .zero _ _ => true
  | .one _ _ => true
  | .negOne _ _ => true
  | .passD _ _ => true
  | .passA _ _ => true
  | .passM _ _ => true
  | .notD _ _ => true
  | .notA _ _ => true
  | .notM _ _ => true
  | .negD _ _ => true
  | .negA _ _ => true
  | .negM _ _ => true
  | .incD _ _ => true
  | .incA _ _ => true
  | .incM _ _ => true
  | .decD _ _ => true
  | .decA _ _ => true
  | .decM _ _ => true
  | .dPlusA _ _ => true
  | .dPlusM _ _ => true
  | .dMinusA _ _ => true
  | .dMinusM _ _ => true
  | .aMinusD _ _ => true
  | .mMinusD _ _ => true
  | .dAndA _ _ => true
  | .dAndM _ _ => true
  | .dOrA _ _ => true
  | .dOrM _ _ => true
  | .comp0000001 _ _ => true
  | .comp0000011 _ _ => true
  | .comp0000100 _ _ => true
  | .comp0000101 _ _ => true
  | .comp0000110 _ _ => true
  | .comp0001000 _ _ => true
  | .comp0001001 _ _ => true
  | .comp0001010 _ _ => true
  | .comp0001011 _ _ => true
  | .comp0010000 _ _ => true
  | .comp0010001 _ _ => true
  | .comp0010010 _ _ => true
  | .comp0010100 _ _ => true
  | .comp0010110 _ _ => true
  | .comp0010111 _ _ => true
  | .comp0011000 _ _ => true
  | .comp0011001 _ _ => true
  | .comp0011010 _ _ => true
  | .comp0011011 _ _ => true
  | .comp0011100 _ _ => true
  | .comp0011101 _ _ => true
  | .comp0011110 _ _ => true
  | .comp0100000 _ _ => true
  | .comp0100001 _ _ => true
  | .comp0100010 _ _ => true
  | .comp0100011 _ _ => true
  | .comp0100100 _ _ => true
  | .comp0100101 _ _ => true
  | .comp0100110 _ _ => true
  | .comp0100111 _ _ => true
  | .comp0101000 _ _ => true
  | .comp0101001 _ _ => true
  | .comp0101011 _ _ => true
  | .comp0101100 _ _ => true
  | .comp0101101 _ _ => true
  | .comp0101110 _ _ => true
  | .comp0101111 _ _ => true
  | .comp0110100 _ _ => true
  | .comp0110101 _ _ => true
  | .comp0110110 _ _ => true
  | .comp0111000 _ _ => true
  | .comp0111001 _ _ => true
  | .comp0111011 _ _ => true
  | .comp0111100 _ _ => true
  | .comp0111101 _ _ => true
  | .comp0111110 _ _ => true
  | .comp1000001 _ _ => true
  | .comp1000011 _ _ => true
  | .comp1000100 _ _ => true
  | .comp1000101 _ _ => true
  | .comp1000110 _ _ => true
  | .comp1001000 _ _ => true
  | .comp1001001 _ _ => true
  | .comp1001010 _ _ => true
  | .comp1001011 _ _ => true
  | .comp1001100 _ _ => true
  | .comp1001101 _ _ => true
  | .comp1001110 _ _ => true
  | .comp1001111 _ _ => true
  | .comp1010000 _ _ => true
  | .comp1010001 _ _ => true
  | .comp1010010 _ _ => true
  | .comp1010100 _ _ => true
  | .comp1010110 _ _ => true
  | .comp1010111 _ _ => true
  | .comp1011000 _ _ => true
  | .comp1011001 _ _ => true
  | .comp1011010 _ _ => true
  | .comp1011011 _ _ => true
  | .comp1011100 _ _ => true
  | .comp1011101 _ _ => true
  | .comp1011110 _ _ => true
  | .comp1011111 _ _ => true
  | .comp1100000 _ _ => true
  | .comp1100001 _ _ => true
  | .comp1100010 _ _ => true
  | .comp1100011 _ _ => true
  | .comp1100100 _ _ => true
  | .comp1100101 _ _ => true
  | .comp1100110 _ _ => true
  | .comp1100111 _ _ => true
  | .comp1101000 _ _ => true
  | .comp1101001 _ _ => true
  | .comp1101010 _ _ => true
  | .comp1101011 _ _ => true
  | .comp1101100 _ _ => true
  | .comp1101101 _ _ => true
  | .comp1101110 _ _ => true
  | .comp1101111 _ _ => true
  | .comp1110100 _ _ => true
  | .comp1110101 _ _ => true
  | .comp1110110 _ _ => true
  | .comp1111000 _ _ => true
  | .comp1111001 _ _ => true
  | .comp1111010 _ _ => true
  | .comp1111011 _ _ => true
  | .comp1111100 _ _ => true
  | .comp1111101 _ _ => true
  | .comp1111110 _ _ => true
  | .comp1111111 _ _ => true
  | .malformed00 _ _ _ _ => false
  | .malformed01 _ _ _ _ => false
  | .malformed10 _ _ _ _ => false

/-- The instruction has an assembly text: it is an A-instruction or its comp field is one of the 28 with a mnemonic
(rules R106 and R112). -/
def Instr.named (i : Instr) : Bool :=
  match i with
  | .atValue _ => true
  | .zero _ _ => true
  | .one _ _ => true
  | .negOne _ _ => true
  | .passD _ _ => true
  | .passA _ _ => true
  | .passM _ _ => true
  | .notD _ _ => true
  | .notA _ _ => true
  | .notM _ _ => true
  | .negD _ _ => true
  | .negA _ _ => true
  | .negM _ _ => true
  | .incD _ _ => true
  | .incA _ _ => true
  | .incM _ _ => true
  | .decD _ _ => true
  | .decA _ _ => true
  | .decM _ _ => true
  | .dPlusA _ _ => true
  | .dPlusM _ _ => true
  | .dMinusA _ _ => true
  | .dMinusM _ _ => true
  | .aMinusD _ _ => true
  | .mMinusD _ _ => true
  | .dAndA _ _ => true
  | .dAndM _ _ => true
  | .dOrA _ _ => true
  | .dOrM _ _ => true
  | .comp0000001 _ _ => false
  | .comp0000011 _ _ => false
  | .comp0000100 _ _ => false
  | .comp0000101 _ _ => false
  | .comp0000110 _ _ => false
  | .comp0001000 _ _ => false
  | .comp0001001 _ _ => false
  | .comp0001010 _ _ => false
  | .comp0001011 _ _ => false
  | .comp0010000 _ _ => false
  | .comp0010001 _ _ => false
  | .comp0010010 _ _ => false
  | .comp0010100 _ _ => false
  | .comp0010110 _ _ => false
  | .comp0010111 _ _ => false
  | .comp0011000 _ _ => false
  | .comp0011001 _ _ => false
  | .comp0011010 _ _ => false
  | .comp0011011 _ _ => false
  | .comp0011100 _ _ => false
  | .comp0011101 _ _ => false
  | .comp0011110 _ _ => false
  | .comp0100000 _ _ => false
  | .comp0100001 _ _ => false
  | .comp0100010 _ _ => false
  | .comp0100011 _ _ => false
  | .comp0100100 _ _ => false
  | .comp0100101 _ _ => false
  | .comp0100110 _ _ => false
  | .comp0100111 _ _ => false
  | .comp0101000 _ _ => false
  | .comp0101001 _ _ => false
  | .comp0101011 _ _ => false
  | .comp0101100 _ _ => false
  | .comp0101101 _ _ => false
  | .comp0101110 _ _ => false
  | .comp0101111 _ _ => false
  | .comp0110100 _ _ => false
  | .comp0110101 _ _ => false
  | .comp0110110 _ _ => false
  | .comp0111000 _ _ => false
  | .comp0111001 _ _ => false
  | .comp0111011 _ _ => false
  | .comp0111100 _ _ => false
  | .comp0111101 _ _ => false
  | .comp0111110 _ _ => false
  | .comp1000001 _ _ => false
  | .comp1000011 _ _ => false
  | .comp1000100 _ _ => false
  | .comp1000101 _ _ => false
  | .comp1000110 _ _ => false
  | .comp1001000 _ _ => false
  | .comp1001001 _ _ => false
  | .comp1001010 _ _ => false
  | .comp1001011 _ _ => false
  | .comp1001100 _ _ => false
  | .comp1001101 _ _ => false
  | .comp1001110 _ _ => false
  | .comp1001111 _ _ => false
  | .comp1010000 _ _ => false
  | .comp1010001 _ _ => false
  | .comp1010010 _ _ => false
  | .comp1010100 _ _ => false
  | .comp1010110 _ _ => false
  | .comp1010111 _ _ => false
  | .comp1011000 _ _ => false
  | .comp1011001 _ _ => false
  | .comp1011010 _ _ => false
  | .comp1011011 _ _ => false
  | .comp1011100 _ _ => false
  | .comp1011101 _ _ => false
  | .comp1011110 _ _ => false
  | .comp1011111 _ _ => false
  | .comp1100000 _ _ => false
  | .comp1100001 _ _ => false
  | .comp1100010 _ _ => false
  | .comp1100011 _ _ => false
  | .comp1100100 _ _ => false
  | .comp1100101 _ _ => false
  | .comp1100110 _ _ => false
  | .comp1100111 _ _ => false
  | .comp1101000 _ _ => false
  | .comp1101001 _ _ => false
  | .comp1101010 _ _ => false
  | .comp1101011 _ _ => false
  | .comp1101100 _ _ => false
  | .comp1101101 _ _ => false
  | .comp1101110 _ _ => false
  | .comp1101111 _ _ => false
  | .comp1110100 _ _ => false
  | .comp1110101 _ _ => false
  | .comp1110110 _ _ => false
  | .comp1111000 _ _ => false
  | .comp1111001 _ _ => false
  | .comp1111010 _ _ => false
  | .comp1111011 _ _ => false
  | .comp1111100 _ _ => false
  | .comp1111101 _ _ => false
  | .comp1111110 _ _ => false
  | .comp1111111 _ _ => false
  | .malformed00 _ _ _ _ => false
  | .malformed01 _ _ _ _ => false
  | .malformed10 _ _ _ _ => false

end Sys2Proof
end

