-- ==== Sys2Proof/Decode.lean ====
section
/-! DEFINITION. The binary encoding: the CPU's decoder, which gives every word an instruction (rules R111, R112 and
R115); the codec's decoder, which rejects malformed C words by name (rule R110); the encoder (rule R109). -/

namespace Sys2Proof

/-! ## Fields as codes -/

/-- The bit of the `a` field (rule R103). -/
def YSource.code : YSource → BitVec 1
  | .regA => 0#1
  | .mem => 1#1

/-- The operand an `a` bit selects (rule R103). -/
def YSource.ofBit (a : Bool) : YSource := if a then .mem else .regA

/-- The six control bits as one code, zx the highest (rule R103). -/
def AluCtl.code (c : AluCtl) : BitVec 6 :=
  BitVec.ofBool c.zx ++ BitVec.ofBool c.nx ++ BitVec.ofBool c.zy ++ BitVec.ofBool c.ny ++ BitVec.ofBool c.f ++
    BitVec.ofBool c.no

/-- The control bits a code spells (rule R103). -/
def AluCtl.ofCode (c : BitVec 6) : AluCtl where
  zx := c.getLsbD 5
  nx := c.getLsbD 4
  zy := c.getLsbD 3
  ny := c.getLsbD 2
  f := c.getLsbD 1
  no := c.getLsbD 0

/-- `d1 d2 d3` as one code (rule R103). -/
def Dest.code (d : Dest) : BitVec 3 := BitVec.ofBool d.toA ++ BitVec.ofBool d.toD ++ BitVec.ofBool d.toM

/-- The destinations a code names (rule R107). -/
def Dest.ofCode (c : BitVec 3) : Dest where
  toA := c.getLsbD 2
  toD := c.getLsbD 1
  toM := c.getLsbD 0

/-- `j1 j2 j3` as one code (rule R103). -/
def Jump.code (j : Jump) : BitVec 3 := BitVec.ofBool j.ifNeg ++ BitVec.ofBool j.ifZero ++ BitVec.ofBool j.ifPos

/-- The jump conditions a code names (rule R108). -/
def Jump.ofCode (c : BitVec 3) : Jump where
  ifNeg := c.getLsbD 2
  ifZero := c.getLsbD 1
  ifPos := c.getLsbD 0

/-- The `a` bit of a 7-bit comp field (rule R103). -/
def YSource.ofComp (comp : BitVec 7) : YSource := YSource.ofBit (comp.getLsbD 6)

/-- The control bits of a 7-bit comp field (rule R103). -/
def AluCtl.ofComp (comp : BitVec 7) : AluCtl := AluCtl.ofCode (comp.extractLsb' 0 6)

/-! ## The fields of a word (rules R102 and R103) -/

/-- `w[14:0]`. -/
def valueOf (w : Word) : Addr := w.extractLsb' 0 15

/-- `w[12:6]`. -/
def compOf (w : Word) : BitVec 7 := w.extractLsb' 6 7

/-- `w[12]`. -/
def ySourceOf (w : Word) : YSource := YSource.ofBit (w.getLsbD 12)

/-- `w[11:6]`. -/
def ctlOf (w : Word) : AluCtl := AluCtl.ofCode (w.extractLsb' 6 6)

/-- `w[5:3]`. -/
def destOf (w : Word) : Dest := Dest.ofCode (w.extractLsb' 3 3)

/-- `w[2:0]`. -/
def jumpOf (w : Word) : Jump := Jump.ofCode (w.extractLsb' 0 3)

/-! ## The CPU's decoder -/

/-- The well-formed C-instruction with given fields: one constructor for each of the 128 comp values (rules R106, R115
and R241). Which mnemonic a code has is the spec's general knowledge (log 9); what the code does is not. -/
def cInstr (y : YSource) (ctl : AluCtl) (dest : Dest) (jump : Jump) : Instr :=
  match y, ctl with
  | .regA, ⟨false, false, false, false, false, false⟩ => .dAndA dest jump
  | .regA, ⟨false, false, false, false, false, true⟩ => .comp0000001 dest jump
  | .regA, ⟨false, false, false, false, true, false⟩ => .dPlusA dest jump
  | .regA, ⟨false, false, false, false, true, true⟩ => .comp0000011 dest jump
  | .regA, ⟨false, false, false, true, false, false⟩ => .comp0000100 dest jump
  | .regA, ⟨false, false, false, true, false, true⟩ => .comp0000101 dest jump
  | .regA, ⟨false, false, false, true, true, false⟩ => .comp0000110 dest jump
  | .regA, ⟨false, false, false, true, true, true⟩ => .aMinusD dest jump
  | .regA, ⟨false, false, true, false, false, false⟩ => .comp0001000 dest jump
  | .regA, ⟨false, false, true, false, false, true⟩ => .comp0001001 dest jump
  | .regA, ⟨false, false, true, false, true, false⟩ => .comp0001010 dest jump
  | .regA, ⟨false, false, true, false, true, true⟩ => .comp0001011 dest jump
  | .regA, ⟨false, false, true, true, false, false⟩ => .passD dest jump
  | .regA, ⟨false, false, true, true, false, true⟩ => .notD dest jump
  | .regA, ⟨false, false, true, true, true, false⟩ => .decD dest jump
  | .regA, ⟨false, false, true, true, true, true⟩ => .negD dest jump
  | .regA, ⟨false, true, false, false, false, false⟩ => .comp0010000 dest jump
  | .regA, ⟨false, true, false, false, false, true⟩ => .comp0010001 dest jump
  | .regA, ⟨false, true, false, false, true, false⟩ => .comp0010010 dest jump
  | .regA, ⟨false, true, false, false, true, true⟩ => .dMinusA dest jump
  | .regA, ⟨false, true, false, true, false, false⟩ => .comp0010100 dest jump
  | .regA, ⟨false, true, false, true, false, true⟩ => .dOrA dest jump
  | .regA, ⟨false, true, false, true, true, false⟩ => .comp0010110 dest jump
  | .regA, ⟨false, true, false, true, true, true⟩ => .comp0010111 dest jump
  | .regA, ⟨false, true, true, false, false, false⟩ => .comp0011000 dest jump
  | .regA, ⟨false, true, true, false, false, true⟩ => .comp0011001 dest jump
  | .regA, ⟨false, true, true, false, true, false⟩ => .comp0011010 dest jump
  | .regA, ⟨false, true, true, false, true, true⟩ => .comp0011011 dest jump
  | .regA, ⟨false, true, true, true, false, false⟩ => .comp0011100 dest jump
  | .regA, ⟨false, true, true, true, false, true⟩ => .comp0011101 dest jump
  | .regA, ⟨false, true, true, true, true, false⟩ => .comp0011110 dest jump
  | .regA, ⟨false, true, true, true, true, true⟩ => .incD dest jump
  | .regA, ⟨true, false, false, false, false, false⟩ => .comp0100000 dest jump
  | .regA, ⟨true, false, false, false, false, true⟩ => .comp0100001 dest jump
  | .regA, ⟨true, false, false, false, true, false⟩ => .comp0100010 dest jump
  | .regA, ⟨true, false, false, false, true, true⟩ => .comp0100011 dest jump
  | .regA, ⟨true, false, false, true, false, false⟩ => .comp0100100 dest jump
  | .regA, ⟨true, false, false, true, false, true⟩ => .comp0100101 dest jump
  | .regA, ⟨true, false, false, true, true, false⟩ => .comp0100110 dest jump
  | .regA, ⟨true, false, false, true, true, true⟩ => .comp0100111 dest jump
  | .regA, ⟨true, false, true, false, false, false⟩ => .comp0101000 dest jump
  | .regA, ⟨true, false, true, false, false, true⟩ => .comp0101001 dest jump
  | .regA, ⟨true, false, true, false, true, false⟩ => .zero dest jump
  | .regA, ⟨true, false, true, false, true, true⟩ => .comp0101011 dest jump
  | .regA, ⟨true, false, true, true, false, false⟩ => .comp0101100 dest jump
  | .regA, ⟨true, false, true, true, false, true⟩ => .comp0101101 dest jump
  | .regA, ⟨true, false, true, true, true, false⟩ => .comp0101110 dest jump
  | .regA, ⟨true, false, true, true, true, true⟩ => .comp0101111 dest jump
  | .regA, ⟨true, true, false, false, false, false⟩ => .passA dest jump
  | .regA, ⟨true, true, false, false, false, true⟩ => .notA dest jump
  | .regA, ⟨true, true, false, false, true, false⟩ => .decA dest jump
  | .regA, ⟨true, true, false, false, true, true⟩ => .negA dest jump
  | .regA, ⟨true, true, false, true, false, false⟩ => .comp0110100 dest jump
  | .regA, ⟨true, true, false, true, false, true⟩ => .comp0110101 dest jump
  | .regA, ⟨true, true, false, true, true, false⟩ => .comp0110110 dest jump
  | .regA, ⟨true, true, false, true, true, true⟩ => .incA dest jump
  | .regA, ⟨true, true, true, false, false, false⟩ => .comp0111000 dest jump
  | .regA, ⟨true, true, true, false, false, true⟩ => .comp0111001 dest jump
  | .regA, ⟨true, true, true, false, true, false⟩ => .negOne dest jump
  | .regA, ⟨true, true, true, false, true, true⟩ => .comp0111011 dest jump
  | .regA, ⟨true, true, true, true, false, false⟩ => .comp0111100 dest jump
  | .regA, ⟨true, true, true, true, false, true⟩ => .comp0111101 dest jump
  | .regA, ⟨true, true, true, true, true, false⟩ => .comp0111110 dest jump
  | .regA, ⟨true, true, true, true, true, true⟩ => .one dest jump
  | .mem, ⟨false, false, false, false, false, false⟩ => .dAndM dest jump
  | .mem, ⟨false, false, false, false, false, true⟩ => .comp1000001 dest jump
  | .mem, ⟨false, false, false, false, true, false⟩ => .dPlusM dest jump
  | .mem, ⟨false, false, false, false, true, true⟩ => .comp1000011 dest jump
  | .mem, ⟨false, false, false, true, false, false⟩ => .comp1000100 dest jump
  | .mem, ⟨false, false, false, true, false, true⟩ => .comp1000101 dest jump
  | .mem, ⟨false, false, false, true, true, false⟩ => .comp1000110 dest jump
  | .mem, ⟨false, false, false, true, true, true⟩ => .mMinusD dest jump
  | .mem, ⟨false, false, true, false, false, false⟩ => .comp1001000 dest jump
  | .mem, ⟨false, false, true, false, false, true⟩ => .comp1001001 dest jump
  | .mem, ⟨false, false, true, false, true, false⟩ => .comp1001010 dest jump
  | .mem, ⟨false, false, true, false, true, true⟩ => .comp1001011 dest jump
  | .mem, ⟨false, false, true, true, false, false⟩ => .comp1001100 dest jump
  | .mem, ⟨false, false, true, true, false, true⟩ => .comp1001101 dest jump
  | .mem, ⟨false, false, true, true, true, false⟩ => .comp1001110 dest jump
  | .mem, ⟨false, false, true, true, true, true⟩ => .comp1001111 dest jump
  | .mem, ⟨false, true, false, false, false, false⟩ => .comp1010000 dest jump
  | .mem, ⟨false, true, false, false, false, true⟩ => .comp1010001 dest jump
  | .mem, ⟨false, true, false, false, true, false⟩ => .comp1010010 dest jump
  | .mem, ⟨false, true, false, false, true, true⟩ => .dMinusM dest jump
  | .mem, ⟨false, true, false, true, false, false⟩ => .comp1010100 dest jump
  | .mem, ⟨false, true, false, true, false, true⟩ => .dOrM dest jump
  | .mem, ⟨false, true, false, true, true, false⟩ => .comp1010110 dest jump
  | .mem, ⟨false, true, false, true, true, true⟩ => .comp1010111 dest jump
  | .mem, ⟨false, true, true, false, false, false⟩ => .comp1011000 dest jump
  | .mem, ⟨false, true, true, false, false, true⟩ => .comp1011001 dest jump
  | .mem, ⟨false, true, true, false, true, false⟩ => .comp1011010 dest jump
  | .mem, ⟨false, true, true, false, true, true⟩ => .comp1011011 dest jump
  | .mem, ⟨false, true, true, true, false, false⟩ => .comp1011100 dest jump
  | .mem, ⟨false, true, true, true, false, true⟩ => .comp1011101 dest jump
  | .mem, ⟨false, true, true, true, true, false⟩ => .comp1011110 dest jump
  | .mem, ⟨false, true, true, true, true, true⟩ => .comp1011111 dest jump
  | .mem, ⟨true, false, false, false, false, false⟩ => .comp1100000 dest jump
  | .mem, ⟨true, false, false, false, false, true⟩ => .comp1100001 dest jump
  | .mem, ⟨true, false, false, false, true, false⟩ => .comp1100010 dest jump
  | .mem, ⟨true, false, false, false, true, true⟩ => .comp1100011 dest jump
  | .mem, ⟨true, false, false, true, false, false⟩ => .comp1100100 dest jump
  | .mem, ⟨true, false, false, true, false, true⟩ => .comp1100101 dest jump
  | .mem, ⟨true, false, false, true, true, false⟩ => .comp1100110 dest jump
  | .mem, ⟨true, false, false, true, true, true⟩ => .comp1100111 dest jump
  | .mem, ⟨true, false, true, false, false, false⟩ => .comp1101000 dest jump
  | .mem, ⟨true, false, true, false, false, true⟩ => .comp1101001 dest jump
  | .mem, ⟨true, false, true, false, true, false⟩ => .comp1101010 dest jump
  | .mem, ⟨true, false, true, false, true, true⟩ => .comp1101011 dest jump
  | .mem, ⟨true, false, true, true, false, false⟩ => .comp1101100 dest jump
  | .mem, ⟨true, false, true, true, false, true⟩ => .comp1101101 dest jump
  | .mem, ⟨true, false, true, true, true, false⟩ => .comp1101110 dest jump
  | .mem, ⟨true, false, true, true, true, true⟩ => .comp1101111 dest jump
  | .mem, ⟨true, true, false, false, false, false⟩ => .passM dest jump
  | .mem, ⟨true, true, false, false, false, true⟩ => .notM dest jump
  | .mem, ⟨true, true, false, false, true, false⟩ => .decM dest jump
  | .mem, ⟨true, true, false, false, true, true⟩ => .negM dest jump
  | .mem, ⟨true, true, false, true, false, false⟩ => .comp1110100 dest jump
  | .mem, ⟨true, true, false, true, false, true⟩ => .comp1110101 dest jump
  | .mem, ⟨true, true, false, true, true, false⟩ => .comp1110110 dest jump
  | .mem, ⟨true, true, false, true, true, true⟩ => .incM dest jump
  | .mem, ⟨true, true, true, false, false, false⟩ => .comp1111000 dest jump
  | .mem, ⟨true, true, true, false, false, true⟩ => .comp1111001 dest jump
  | .mem, ⟨true, true, true, false, true, false⟩ => .comp1111010 dest jump
  | .mem, ⟨true, true, true, false, true, true⟩ => .comp1111011 dest jump
  | .mem, ⟨true, true, true, true, false, false⟩ => .comp1111100 dest jump
  | .mem, ⟨true, true, true, true, false, true⟩ => .comp1111101 dest jump
  | .mem, ⟨true, true, true, true, true, false⟩ => .comp1111110 dest jump
  | .mem, ⟨true, true, true, true, true, true⟩ => .comp1111111 dest jump

/-- The instruction the CPU runs for a word. Every word has one: bit 15 alone chooses the format (rule R101), and a C
word with bits 14 and 13 not both 1 is kept apart as malformed (rules R111 and R115). -/
def decodeWord (w : Word) : Instr :=
  if w.getLsbD 15 then
    match w.getLsbD 14, w.getLsbD 13 with
    | true, true => cInstr (ySourceOf w) (ctlOf w) (destOf w) (jumpOf w)
    | false, false => .malformed00 (ySourceOf w) (ctlOf w) (destOf w) (jumpOf w)
    | false, true => .malformed01 (ySourceOf w) (ctlOf w) (destOf w) (jumpOf w)
    | true, false => .malformed10 (ySourceOf w) (ctlOf w) (destOf w) (jumpOf w)
  else .atValue (valueOf w)

/-! ## The encoder -/

/-- The C-format word with given top three bits and fields (rules R103 and R109). -/
def cWord (top : BitVec 3) (y : YSource) (ctl : BitVec 6) (dest : Dest) (jump : Jump) : Word :=
  top ++ y.code ++ ctl ++ dest.code ++ jump.code

/-- The word of an instruction: `toBinary` (rule R109) on the well-formed ones, and the malformed word itself on the
three malformed ones. -/
def encode (i : Instr) : Word :=
  match i with
  | .atValue value => 0#1 ++ value
  | .zero dest jump => cWord 0b111#3 .regA 0b101010#6 dest jump
  | .one dest jump => cWord 0b111#3 .regA 0b111111#6 dest jump
  | .negOne dest jump => cWord 0b111#3 .regA 0b111010#6 dest jump
  | .passD dest jump => cWord 0b111#3 .regA 0b001100#6 dest jump
  | .passA dest jump => cWord 0b111#3 .regA 0b110000#6 dest jump
  | .passM dest jump => cWord 0b111#3 .mem 0b110000#6 dest jump
  | .notD dest jump => cWord 0b111#3 .regA 0b001101#6 dest jump
  | .notA dest jump => cWord 0b111#3 .regA 0b110001#6 dest jump
  | .notM dest jump => cWord 0b111#3 .mem 0b110001#6 dest jump
  | .negD dest jump => cWord 0b111#3 .regA 0b001111#6 dest jump
  | .negA dest jump => cWord 0b111#3 .regA 0b110011#6 dest jump
  | .negM dest jump => cWord 0b111#3 .mem 0b110011#6 dest jump
  | .incD dest jump => cWord 0b111#3 .regA 0b011111#6 dest jump
  | .incA dest jump => cWord 0b111#3 .regA 0b110111#6 dest jump
  | .incM dest jump => cWord 0b111#3 .mem 0b110111#6 dest jump
  | .decD dest jump => cWord 0b111#3 .regA 0b001110#6 dest jump
  | .decA dest jump => cWord 0b111#3 .regA 0b110010#6 dest jump
  | .decM dest jump => cWord 0b111#3 .mem 0b110010#6 dest jump
  | .dPlusA dest jump => cWord 0b111#3 .regA 0b000010#6 dest jump
  | .dPlusM dest jump => cWord 0b111#3 .mem 0b000010#6 dest jump
  | .dMinusA dest jump => cWord 0b111#3 .regA 0b010011#6 dest jump
  | .dMinusM dest jump => cWord 0b111#3 .mem 0b010011#6 dest jump
  | .aMinusD dest jump => cWord 0b111#3 .regA 0b000111#6 dest jump
  | .mMinusD dest jump => cWord 0b111#3 .mem 0b000111#6 dest jump
  | .dAndA dest jump => cWord 0b111#3 .regA 0b000000#6 dest jump
  | .dAndM dest jump => cWord 0b111#3 .mem 0b000000#6 dest jump
  | .dOrA dest jump => cWord 0b111#3 .regA 0b010101#6 dest jump
  | .dOrM dest jump => cWord 0b111#3 .mem 0b010101#6 dest jump
  | .comp0000001 dest jump => cWord 0b111#3 .regA 0b000001#6 dest jump
  | .comp0000011 dest jump => cWord 0b111#3 .regA 0b000011#6 dest jump
  | .comp0000100 dest jump => cWord 0b111#3 .regA 0b000100#6 dest jump
  | .comp0000101 dest jump => cWord 0b111#3 .regA 0b000101#6 dest jump
  | .comp0000110 dest jump => cWord 0b111#3 .regA 0b000110#6 dest jump
  | .comp0001000 dest jump => cWord 0b111#3 .regA 0b001000#6 dest jump
  | .comp0001001 dest jump => cWord 0b111#3 .regA 0b001001#6 dest jump
  | .comp0001010 dest jump => cWord 0b111#3 .regA 0b001010#6 dest jump
  | .comp0001011 dest jump => cWord 0b111#3 .regA 0b001011#6 dest jump
  | .comp0010000 dest jump => cWord 0b111#3 .regA 0b010000#6 dest jump
  | .comp0010001 dest jump => cWord 0b111#3 .regA 0b010001#6 dest jump
  | .comp0010010 dest jump => cWord 0b111#3 .regA 0b010010#6 dest jump
  | .comp0010100 dest jump => cWord 0b111#3 .regA 0b010100#6 dest jump
  | .comp0010110 dest jump => cWord 0b111#3 .regA 0b010110#6 dest jump
  | .comp0010111 dest jump => cWord 0b111#3 .regA 0b010111#6 dest jump
  | .comp0011000 dest jump => cWord 0b111#3 .regA 0b011000#6 dest jump
  | .comp0011001 dest jump => cWord 0b111#3 .regA 0b011001#6 dest jump
  | .comp0011010 dest jump => cWord 0b111#3 .regA 0b011010#6 dest jump
  | .comp0011011 dest jump => cWord 0b111#3 .regA 0b011011#6 dest jump
  | .comp0011100 dest jump => cWord 0b111#3 .regA 0b011100#6 dest jump
  | .comp0011101 dest jump => cWord 0b111#3 .regA 0b011101#6 dest jump
  | .comp0011110 dest jump => cWord 0b111#3 .regA 0b011110#6 dest jump
  | .comp0100000 dest jump => cWord 0b111#3 .regA 0b100000#6 dest jump
  | .comp0100001 dest jump => cWord 0b111#3 .regA 0b100001#6 dest jump
  | .comp0100010 dest jump => cWord 0b111#3 .regA 0b100010#6 dest jump
  | .comp0100011 dest jump => cWord 0b111#3 .regA 0b100011#6 dest jump
  | .comp0100100 dest jump => cWord 0b111#3 .regA 0b100100#6 dest jump
  | .comp0100101 dest jump => cWord 0b111#3 .regA 0b100101#6 dest jump
  | .comp0100110 dest jump => cWord 0b111#3 .regA 0b100110#6 dest jump
  | .comp0100111 dest jump => cWord 0b111#3 .regA 0b100111#6 dest jump
  | .comp0101000 dest jump => cWord 0b111#3 .regA 0b101000#6 dest jump
  | .comp0101001 dest jump => cWord 0b111#3 .regA 0b101001#6 dest jump
  | .comp0101011 dest jump => cWord 0b111#3 .regA 0b101011#6 dest jump
  | .comp0101100 dest jump => cWord 0b111#3 .regA 0b101100#6 dest jump
  | .comp0101101 dest jump => cWord 0b111#3 .regA 0b101101#6 dest jump
  | .comp0101110 dest jump => cWord 0b111#3 .regA 0b101110#6 dest jump
  | .comp0101111 dest jump => cWord 0b111#3 .regA 0b101111#6 dest jump
  | .comp0110100 dest jump => cWord 0b111#3 .regA 0b110100#6 dest jump
  | .comp0110101 dest jump => cWord 0b111#3 .regA 0b110101#6 dest jump
  | .comp0110110 dest jump => cWord 0b111#3 .regA 0b110110#6 dest jump
  | .comp0111000 dest jump => cWord 0b111#3 .regA 0b111000#6 dest jump
  | .comp0111001 dest jump => cWord 0b111#3 .regA 0b111001#6 dest jump
  | .comp0111011 dest jump => cWord 0b111#3 .regA 0b111011#6 dest jump
  | .comp0111100 dest jump => cWord 0b111#3 .regA 0b111100#6 dest jump
  | .comp0111101 dest jump => cWord 0b111#3 .regA 0b111101#6 dest jump
  | .comp0111110 dest jump => cWord 0b111#3 .regA 0b111110#6 dest jump
  | .comp1000001 dest jump => cWord 0b111#3 .mem 0b000001#6 dest jump
  | .comp1000011 dest jump => cWord 0b111#3 .mem 0b000011#6 dest jump
  | .comp1000100 dest jump => cWord 0b111#3 .mem 0b000100#6 dest jump
  | .comp1000101 dest jump => cWord 0b111#3 .mem 0b000101#6 dest jump
  | .comp1000110 dest jump => cWord 0b111#3 .mem 0b000110#6 dest jump
  | .comp1001000 dest jump => cWord 0b111#3 .mem 0b001000#6 dest jump
  | .comp1001001 dest jump => cWord 0b111#3 .mem 0b001001#6 dest jump
  | .comp1001010 dest jump => cWord 0b111#3 .mem 0b001010#6 dest jump
  | .comp1001011 dest jump => cWord 0b111#3 .mem 0b001011#6 dest jump
  | .comp1001100 dest jump => cWord 0b111#3 .mem 0b001100#6 dest jump
  | .comp1001101 dest jump => cWord 0b111#3 .mem 0b001101#6 dest jump
  | .comp1001110 dest jump => cWord 0b111#3 .mem 0b001110#6 dest jump
  | .comp1001111 dest jump => cWord 0b111#3 .mem 0b001111#6 dest jump
  | .comp1010000 dest jump => cWord 0b111#3 .mem 0b010000#6 dest jump
  | .comp1010001 dest jump => cWord 0b111#3 .mem 0b010001#6 dest jump
  | .comp1010010 dest jump => cWord 0b111#3 .mem 0b010010#6 dest jump
  | .comp1010100 dest jump => cWord 0b111#3 .mem 0b010100#6 dest jump
  | .comp1010110 dest jump => cWord 0b111#3 .mem 0b010110#6 dest jump
  | .comp1010111 dest jump => cWord 0b111#3 .mem 0b010111#6 dest jump
  | .comp1011000 dest jump => cWord 0b111#3 .mem 0b011000#6 dest jump
  | .comp1011001 dest jump => cWord 0b111#3 .mem 0b011001#6 dest jump
  | .comp1011010 dest jump => cWord 0b111#3 .mem 0b011010#6 dest jump
  | .comp1011011 dest jump => cWord 0b111#3 .mem 0b011011#6 dest jump
  | .comp1011100 dest jump => cWord 0b111#3 .mem 0b011100#6 dest jump
  | .comp1011101 dest jump => cWord 0b111#3 .mem 0b011101#6 dest jump
  | .comp1011110 dest jump => cWord 0b111#3 .mem 0b011110#6 dest jump
  | .comp1011111 dest jump => cWord 0b111#3 .mem 0b011111#6 dest jump
  | .comp1100000 dest jump => cWord 0b111#3 .mem 0b100000#6 dest jump
  | .comp1100001 dest jump => cWord 0b111#3 .mem 0b100001#6 dest jump
  | .comp1100010 dest jump => cWord 0b111#3 .mem 0b100010#6 dest jump
  | .comp1100011 dest jump => cWord 0b111#3 .mem 0b100011#6 dest jump
  | .comp1100100 dest jump => cWord 0b111#3 .mem 0b100100#6 dest jump
  | .comp1100101 dest jump => cWord 0b111#3 .mem 0b100101#6 dest jump
  | .comp1100110 dest jump => cWord 0b111#3 .mem 0b100110#6 dest jump
  | .comp1100111 dest jump => cWord 0b111#3 .mem 0b100111#6 dest jump
  | .comp1101000 dest jump => cWord 0b111#3 .mem 0b101000#6 dest jump
  | .comp1101001 dest jump => cWord 0b111#3 .mem 0b101001#6 dest jump
  | .comp1101010 dest jump => cWord 0b111#3 .mem 0b101010#6 dest jump
  | .comp1101011 dest jump => cWord 0b111#3 .mem 0b101011#6 dest jump
  | .comp1101100 dest jump => cWord 0b111#3 .mem 0b101100#6 dest jump
  | .comp1101101 dest jump => cWord 0b111#3 .mem 0b101101#6 dest jump
  | .comp1101110 dest jump => cWord 0b111#3 .mem 0b101110#6 dest jump
  | .comp1101111 dest jump => cWord 0b111#3 .mem 0b101111#6 dest jump
  | .comp1110100 dest jump => cWord 0b111#3 .mem 0b110100#6 dest jump
  | .comp1110101 dest jump => cWord 0b111#3 .mem 0b110101#6 dest jump
  | .comp1110110 dest jump => cWord 0b111#3 .mem 0b110110#6 dest jump
  | .comp1111000 dest jump => cWord 0b111#3 .mem 0b111000#6 dest jump
  | .comp1111001 dest jump => cWord 0b111#3 .mem 0b111001#6 dest jump
  | .comp1111010 dest jump => cWord 0b111#3 .mem 0b111010#6 dest jump
  | .comp1111011 dest jump => cWord 0b111#3 .mem 0b111011#6 dest jump
  | .comp1111100 dest jump => cWord 0b111#3 .mem 0b111100#6 dest jump
  | .comp1111101 dest jump => cWord 0b111#3 .mem 0b111101#6 dest jump
  | .comp1111110 dest jump => cWord 0b111#3 .mem 0b111110#6 dest jump
  | .comp1111111 dest jump => cWord 0b111#3 .mem 0b111111#6 dest jump
  | .malformed00 y ctl dest jump => cWord 0b100#3 y ctl.code dest jump
  | .malformed01 y ctl dest jump => cWord 0b101#3 y ctl.code dest jump
  | .malformed10 y ctl dest jump => cWord 0b110#3 y ctl.code dest jump

/-! ## The codec's decoder -/

/-- Why the codec gives no instruction for a word (rules R110 and R346). -/
inductive DecodeError where
  /-- Bit 15 is set and bits 14 and 13 are not both set. -/
  | malformedC
deriving DecidableEq, Repr

/-- `decodeBinary(word)` (rule R110): an outcome for every word, an instruction for every well-formed one. -/
def decodeBinary (w : Word) : Except DecodeError Instr :=
  if (decodeWord w).wellFormed then .ok (decodeWord w) else .error .malformedC

/-! ## The opcode table's words -/

/-- The word of a table row: `nbits` bits of `w`, the bits above them zero (rule R100: one word, one length). -/
def tableWord (nbits w : Nat) : Word := BitVec.ofNat 16 (w % 2 ^ nbits)

/-- The instruction the decoder reads from a table row's word; a row longer than the one length there is has none
(rules R100 and R116). A word is fetched whole, so no byte order enters (rule R72). -/
def decodeTableWord (nbits w : Nat) : Option Instr :=
  if nbits ≤ 16 then some (decodeWord (tableWord nbits w)) else none

end Sys2Proof
end

