-- ==== Sys2Proof/Config.lean ====
section
/-! DEFINITION. The sizes and fixed values of this hardware (rule R6). The spec leaves no value of the block
open, so no constant here is a free value. -/

namespace Sys2Proof.Config

/-- RAM words, data addresses 0 to 16383 (rule R61). -/
abbrev ramWords : Nat := 16384

/-- The first Screen address (rule R61). -/
abbrev screenBase : Nat := 16384

/-- Screen words, data addresses 16384 to 24575 (rule R61). -/
abbrev screenWords : Nat := 8192

/-- The Keyboard's data address (rule R61). -/
abbrev kbdAddr : Nat := 24576

/-- ROM words (rule R69; DEDUCED: the spec's decision D3, log 5). -/
abbrev romWords : Nat := 32768

/-- What an unlisted word of RAM, Screen or ROM reads as: 0x0000, the creation value of rules R37 and R370
(DEDUCED: the spec's decisions D4 for the ROM and D9 for RAM and Screen, log 4 and log 5). -/
abbrev fill : Word := 0x0000#16

/-- The first address given to an assembler variable (rule R123). -/
abbrev firstVariable : Nat := 16

/-- The largest value an A-instruction can carry (rules R102 and R119). -/
abbrev maxValue : Nat := 32767

end Sys2Proof.Config
end

