-- ==== Sys2Proof/Machine/State.lean ====
section
/-! DEFINITION. The state of the machine (rule R20), the reasons to stop, and the state at creation (rules R37
and R370). -/

namespace Sys2Proof.Machine

/-- A store of words: (index, word) pairs, the indexes strictly rising and no word equal to `Config.fill`, which is
what an unlisted index reads as. The unit is the 16-bit word, the smallest this machine has (rules R35 and R72;
log 1). -/
abbrev Memory := List (Nat × Word)

/-- The whole state. The first seven fields are rule R20's; the last two are the model's own (log 2 and log 10). -/
@[ext]
structure State where
  /-- The A register (rule R22). -/
  a : Word
  /-- The D register (rule R23). -/
  d : Word
  /-- The program counter cell, 16 bits of which the low 15 address the ROM (rule R27). -/
  pc : Word
  /-- RAM, index = data address (rule R61). -/
  ram : Memory
  /-- The Screen buffer, index = data address − 16384 (rule R61). -/
  screen : Memory
  /-- The Keyboard word, written by the host only (rule R67). -/
  kbd : Word
  /-- The instruction ROM, index = instruction address (rule R69). -/
  rom : Memory
  /-- The `reset` input the host passes to the next tick (rules R310 and R311). DESIGN CHOICE, log 2. -/
  resetIn : Bool
  /-- `loadProgram` may still be called: no load and no tick yet (rule R70). DESIGN CHOICE, log 10. -/
  loadOpen : Bool
deriving DecidableEq, Repr

/-- The reasons a step can stop with a fault: none. The hardware raises no exception and no address error and
cannot fail, stall, trap or halt (rules R312, R340 and R341). DEDUCED, log 19. -/
inductive Fault
deriving DecidableEq, Repr

/-- The reasons for a refusal. -/
inductive Refusal where
  /-- Raised by an arm of `exec` whose instruction has no meaning yet; no arm is one now. Safe. -/
  | notModelled (mnemonic : String)
  /-- Raised by the host operation `loadProgram` for a list longer than the ROM (rule R70, decision D5); nothing is
  loaded. Never raised by a step. Safe. -/
  | programTooLong
  /-- Raised by the host operation `loadProgram` after a tick or an earlier load (rule R70, U12); nothing is loaded.
  Never raised by a step. Safe. -/
  | loadClosed
deriving DecidableEq, Repr

/-- What a step, a meaning or a host operation answers. -/
abbrev StepOutcome := Host.Outcome State Fault Refusal

/-- The machine at creation (rules R37 and R370): registers, program counter, memories and Keyboard word zero, the ROM
unloaded. -/
def State.reset : State where
  a := 0x0000#16
  d := 0x0000#16
  pc := 0x0000#16
  ram := []
  screen := []
  kbd := 0x0000#16
  rom := []
  resetIn := false
  loadOpen := true

end Sys2Proof.Machine
end

