-- ==== Sys2Proof/Machine/Flags.lean ====
section
/-! DEFINITION. The two ALU flags and the jump condition made of them. They are values of one tick and are not
stored (rule R31). -/

namespace Sys2Proof.Machine

/-- `zr`: the output is all zero bits (rule R165). -/
def zeroFlag (out : Word) : Bool := out == 0x0000#16

/-- `ng`: bit 15 of the output (rule R166). -/
def negFlag (out : Word) : Bool := out.getLsbD 15

/-- The jump condition `(j1 ∧ ng) ∨ (j2 ∧ zr) ∨ (j3 ∧ ¬ng ∧ ¬zr)` (rule R280). -/
def jumpTaken (jump : Jump) (zr ng : Bool) : Bool :=
  (jump.ifNeg && ng) || (jump.ifZero && zr) || (jump.ifPos && !ng && !zr)

end Sys2Proof.Machine
end

