-- ==== Sys2Proof/Machine/Alu.lean ====
section
/-! DEFINITION. The `alu_16bit` unit: one pure function of two words and six control bits (rule R160). -/

namespace Sys2Proof.Machine

/-- What the ALU gives: the output and the two flags of it. -/
structure AluResult where
  out : Word
  zr : Bool
  ng : Bool
deriving DecidableEq, Repr

/-- Stages 1 and 2: zero an operand, then complement it, in that order (rules R161 and R162). -/
def zeroThenNot (zero not : Bool) (v : Word) : Word :=
  let z := if zero then 0x0000#16 else v
  if not then ~~~z else z

/-- Stage 3: add modulo 2^16, or AND (rule R163). -/
def combine (f : Bool) (x y : Word) : Word := if f then x + y else x &&& y

/-- The output after stage 4 (rules R161 to R164). -/
def aluOut (x y : Word) (ctl : AluCtl) : Word :=
  let r := combine ctl.f (zeroThenNot ctl.zx ctl.nx x) (zeroThenNot ctl.zy ctl.ny y)
  if ctl.no then ~~~r else r

/-- The ALU (rules R160 to R166); the flags are those of the output alone. -/
def alu (x y : Word) (ctl : AluCtl) : AluResult :=
  let out := aluOut x y ctl
  { out := out, zr := zeroFlag out, ng := negFlag out }

end Sys2Proof.Machine
end

