-- ==== Sys2Proof/Machine/Ops.lean ====
section
/-! DEFINITION. The named operations over stores, registers, the program counter and the data memory. There is no
operation that takes or returns from an exception: the hardware has none (rules R340, R347 and R348). -/

namespace Sys2Proof.Machine

/-- `w[14:0]`: the part of a word that addresses data memory or the ROM (rules R27 and R60). -/
def low15 (w : Word) : Addr := w.extractLsb' 0 15

/-! ## Stores -/

/-- The word at an index; an unlisted index reads as the fill word. -/
def Memory.read : Memory → Nat → Word
  | [], _ => Config.fill
  | (k, w) :: m, i => if k = i then w else Memory.read m i

/-- Store a word at an index, keeping the canonical form: storing the fill word removes the entry. -/
def Memory.write : Memory → Nat → Word → Memory
  | [], i, v => if v = Config.fill then [] else [(i, v)]
  | (k, w) :: m, i, v =>
    if k < i then (k, w) :: Memory.write m i v
    else
      let tail := if k = i then m else (k, w) :: m
      if v = Config.fill then tail else (i, v) :: tail

/-- The indexes from `lo` on are strictly rising and below `size`, and no entry is the fill word. -/
def Memory.wfFrom (size : Nat) : Nat → Memory → Bool
  | _, [] => true
  | lo, (k, w) :: m =>
    decide (lo ≤ k) && decide (k < size) && decide (w ≠ Config.fill) && Memory.wfFrom size (k + 1) m

/-- The canonical form of a store of `size` words. -/
def Memory.wf (size : Nat) (m : Memory) : Bool := Memory.wfFrom size 0 m

/-- The store that holds the words of a list at `base`, `base + 1`, … over what `m` holds elsewhere. -/
def Memory.writeList (m : Memory) (base : Nat) : List Word → Memory
  | [] => m
  | w :: ws => Memory.writeList (m.write base w) (base + 1) ws

/-! ## The memory router (20_memory.md) -/

/-- The four regions of the data space (rule R61). -/
inductive Region where
  | ram
  | screen
  | keyboard
  | void
deriving DecidableEq, Repr

/-- The routing function in the source's priority order (rule R62). -/
def route (addr : Addr) : Region :=
  if addr.toNat < Config.ramWords then .ram
  else if addr.toNat < Config.kbdAddr then .screen
  else if addr.toNat = Config.kbdAddr then .keyboard
  else .void

/-- The index of a Screen address in the Screen store (rule R61). -/
def screenIndex (addr : Addr) : Nat := addr.toNat - Config.screenBase

/-- `MemRead(addr, 16)`, the source's `Memory.peek` (rule R63). -/
def State.readMem (s : State) (addr : Addr) : Word :=
  match route addr with
  | .ram => s.ram.read addr.toNat
  | .screen => s.screen.read (screenIndex addr)
  | .keyboard => s.kbd
  | .void => 0x0000#16

/-- `MemWrite(addr, 16, v)`: RAM and Screen store the word, Keyboard and void discard it (rule R64). -/
def State.writeMem (s : State) (addr : Addr) (v : Word) : State :=
  { s with
    ram := if route addr = .ram then s.ram.write addr.toNat v else s.ram
    screen := if route addr = .screen then s.screen.write (screenIndex addr) v else s.screen }

/-- `Memory.tick(input, address, load)`: the word the address held before, and the memory after (rule R65; the returned
word is the spec's decision D6, log 12). -/
def State.memTick (s : State) (input : Word) (address : Addr) (load : Bool) : Word × State :=
  (s.readMem address, if load then s.writeMem address input else s)

/-! ## Cells, the program counter, the fetch -/

/-- `Register.tick(input, load)`: the value before, and the value stored after (rule R25). -/
def regTick (cell input : Word) (load : Bool) : Word × Word :=
  (cell, if load then input else cell)

/-- The next value of the program counter: reset over load over increment over hold (rule R28). -/
def pcNext (pc input : Word) (load inc reset : Bool) : Word :=
  if reset then 0x0000#16
  else if load then input
  else if inc then pc + 1
  else pc

/-- `PC.tick(input, load, inc, reset)`: the value before, and the value stored after (rule R28). -/
def pcTick (pc input : Word) (load inc reset : Bool) : Word × Word :=
  (pc, pcNext pc input load inc reset)

/-- `RomRead(addr)` (rule R69). -/
def State.romRead (s : State) (addr : Addr) : Word := s.rom.read addr.toNat

/-- `fetch_unit`: the instruction word at the low 15 bits of the program counter (rule R302). -/
def State.fetch (s : State) : Word := s.romRead (low15 s.pc)

/-- `addressM`, the data address of this tick: the low 15 bits of A before the tick (rules R212 and R261). -/
def State.addressM (s : State) : Addr := low15 s.a

/-! ## The end of a tick: all writes together, each from the state before the tick (rules R11 and R301) -/

/-- The commit of an A-instruction: A takes the constant, D and memory keep their values, no jump (rule R200). -/
def State.commitA (s : State) (value : Word) : State :=
  { s with
    a := value
    pc := pcNext s.pc s.a false true s.resetIn }

/-- The commit of a C-instruction: the destinations take the ALU output (rule R260), the store going to the address in
the old A (rule R270), and the program counter takes the old A when the jump is taken (rules R280 and R289; the
target is the spec's decision D1, log 6). -/
def State.commitC (s : State) (r : AluResult) (dest : Dest) (jump : Jump) : State :=
  let stored := if dest.toM then s.writeMem s.addressM r.out else s
  { stored with
    a := if dest.toA then r.out else s.a
    d := if dest.toD then r.out else s.d
    pc := pcNext s.pc s.a (jumpTaken jump r.zr r.ng) true s.resetIn }

/-- A tick closes `loadProgram` (rule R70, "before any `tick`"; log 10). -/
def State.beginTick (s : State) : State := { s with loadOpen := false }

end Sys2Proof.Machine
end

