-- ==== Sys2Proof/Machine/Operands.lean ====
section
/-! DEFINITION. The operand forms: the one immediate and the two ALU operands (rules R104, R105 and R304). -/

namespace Sys2Proof.Machine

/-- The A-instruction's immediate: 15 bits, zero-extended (rule R104). -/
def immediate (value : Addr) : Word := value.setWidth 16

/-- The ALU's x operand: always D (rules R105 and R304). -/
def State.xOperand (s : State) : Word := s.d

/-- The ALU's y operand: A when the `a` bit is 0, the memory word at A's low 15 bits when it is 1 (rules R105, R212
and R304). -/
def State.yOperand (s : State) (y : YSource) : Word :=
  match y with
  | .regA => s.a
  | .mem => s.readMem s.addressM

/-- The control bits the CPU forces during an A-instruction: code 001100, which passes D (rules R173 and R304; four
of the six are the spec's decision D2, log 8). -/
def aInstrCtl : AluCtl := AluCtl.ofCode 0b001100#6

end Sys2Proof.Machine
end

