-- ==== Sys2Proof/Machine/AInstr.lean ====
section
/-! DEFINITION. The A-instruction (41_a_instruction.md). -/

namespace Sys2Proof.Machine

/-- `@value` (rule R200). The ALU's pass-through of D during it (rule R201) writes nothing; `cpuTick` shows it on
`outM`. -/
def execAtValue (value : Addr) (s : State) : StepOutcome :=
  .next (s.commitA (immediate value))

end Sys2Proof.Machine
end

