-- ==== Sys2Proof/Machine/CInstr.lean ====
section
/-! DEFINITION. The C-instruction as a whole (rule R210): the shared operation that every C-instruction's meaning
is one line over. -/

namespace Sys2Proof.Machine

/-- One C-instruction: `alu(x[D], y, …)`, then the destinations and the jump, all from the state before the tick
(rules R210 and R211). -/
def execC (y : YSource) (ctl : AluCtl) (dest : Dest) (jump : Jump) (s : State) : StepOutcome :=
  .next (s.commitC (alu s.xOperand (s.yOperand y) ctl) dest jump)

end Sys2Proof.Machine
end

