-- ==== Sys2Proof/Machine/CMalformed.lean ====
section
/-! DEFINITION. The malformed C words, bit 15 set and bits 14 and 13 not both set. The CPU never looks at those two
bits, so such a word executes as the well-formed word with the same other bits (rules R111 and R303). -/

namespace Sys2Proof.Machine

/-- Bits 15 to 13 are 100 (rule R111). -/
def execMalformed00 (y : YSource) (ctl : AluCtl) (dest : Dest) (jump : Jump) (s : State) : StepOutcome :=
  execC y ctl dest jump s

/-- Bits 15 to 13 are 101 (rule R111). -/
def execMalformed01 (y : YSource) (ctl : AluCtl) (dest : Dest) (jump : Jump) (s : State) : StepOutcome :=
  execC y ctl dest jump s

/-- Bits 15 to 13 are 110 (rule R111). -/
def execMalformed10 (y : YSource) (ctl : AluCtl) (dest : Dest) (jump : Jump) (s : State) : StepOutcome :=
  execC y ctl dest jump s

end Sys2Proof.Machine
end

