-- ==== Sys2Proof/Machine/CNamed.lean ====
section
/-! DEFINITION. The 28 named computations (rules R213 to R240), each one C-instruction with the mnemonic's operand
select and control code (rule R106; the assignment of codes to mnemonics is the spec's general knowledge, log 9). -/

namespace Sys2Proof.Machine

/-- `0`: the constant 0 (rule R213). -/
def execZero (dest : Dest) (jump : Jump) (s : State) : StepOutcome :=
  execC .regA (.ofCode 0b101010#6) dest jump s

/-- `1`: the constant 1 (rule R214). -/
def execOne (dest : Dest) (jump : Jump) (s : State) : StepOutcome :=
  execC .regA (.ofCode 0b111111#6) dest jump s

/-- `-1`: the constant −1 (rule R215). -/
def execNegOne (dest : Dest) (jump : Jump) (s : State) : StepOutcome :=
  execC .regA (.ofCode 0b111010#6) dest jump s

/-- `D`: pass D through (rule R216). -/
def execPassD (dest : Dest) (jump : Jump) (s : State) : StepOutcome :=
  execC .regA (.ofCode 0b001100#6) dest jump s

/-- `A`: pass A through (rule R217). -/
def execPassA (dest : Dest) (jump : Jump) (s : State) : StepOutcome :=
  execC .regA (.ofCode 0b110000#6) dest jump s

/-- `M`: pass M through (rule R218). -/
def execPassM (dest : Dest) (jump : Jump) (s : State) : StepOutcome :=
  execC .mem (.ofCode 0b110000#6) dest jump s

/-- `!D`: complement of D (rule R219). -/
def execNotD (dest : Dest) (jump : Jump) (s : State) : StepOutcome :=
  execC .regA (.ofCode 0b001101#6) dest jump s

/-- `!A`: complement of A (rule R220). -/
def execNotA (dest : Dest) (jump : Jump) (s : State) : StepOutcome :=
  execC .regA (.ofCode 0b110001#6) dest jump s

/-- `!M`: complement of M (rule R221). -/
def execNotM (dest : Dest) (jump : Jump) (s : State) : StepOutcome :=
  execC .mem (.ofCode 0b110001#6) dest jump s

/-- `-D`: negation of D (rule R222). -/
def execNegD (dest : Dest) (jump : Jump) (s : State) : StepOutcome :=
  execC .regA (.ofCode 0b001111#6) dest jump s

/-- `-A`: negation of A (rule R223). -/
def execNegA (dest : Dest) (jump : Jump) (s : State) : StepOutcome :=
  execC .regA (.ofCode 0b110011#6) dest jump s

/-- `-M`: negation of M (rule R224). -/
def execNegM (dest : Dest) (jump : Jump) (s : State) : StepOutcome :=
  execC .mem (.ofCode 0b110011#6) dest jump s

/-- `D+1`: D plus one (rule R225). -/
def execIncD (dest : Dest) (jump : Jump) (s : State) : StepOutcome :=
  execC .regA (.ofCode 0b011111#6) dest jump s

/-- `A+1`: A plus one (rule R226). -/
def execIncA (dest : Dest) (jump : Jump) (s : State) : StepOutcome :=
  execC .regA (.ofCode 0b110111#6) dest jump s

/-- `M+1`: M plus one (rule R227). -/
def execIncM (dest : Dest) (jump : Jump) (s : State) : StepOutcome :=
  execC .mem (.ofCode 0b110111#6) dest jump s

/-- `D-1`: D minus one (rule R228). -/
def execDecD (dest : Dest) (jump : Jump) (s : State) : StepOutcome :=
  execC .regA (.ofCode 0b001110#6) dest jump s

/-- `A-1`: A minus one (rule R229). -/
def execDecA (dest : Dest) (jump : Jump) (s : State) : StepOutcome :=
  execC .regA (.ofCode 0b110010#6) dest jump s

/-- `M-1`: M minus one (rule R230). -/
def execDecM (dest : Dest) (jump : Jump) (s : State) : StepOutcome :=
  execC .mem (.ofCode 0b110010#6) dest jump s

/-- `D+A`: D plus A (rule R231). -/
def execDPlusA (dest : Dest) (jump : Jump) (s : State) : StepOutcome :=
  execC .regA (.ofCode 0b000010#6) dest jump s

/-- `D+M`: D plus M (rule R232). -/
def execDPlusM (dest : Dest) (jump : Jump) (s : State) : StepOutcome :=
  execC .mem (.ofCode 0b000010#6) dest jump s

/-- `D-A`: D minus A (rule R233). -/
def execDMinusA (dest : Dest) (jump : Jump) (s : State) : StepOutcome :=
  execC .regA (.ofCode 0b010011#6) dest jump s

/-- `D-M`: D minus M (rule R234). -/
def execDMinusM (dest : Dest) (jump : Jump) (s : State) : StepOutcome :=
  execC .mem (.ofCode 0b010011#6) dest jump s

/-- `A-D`: A minus D (rule R235). -/
def execAMinusD (dest : Dest) (jump : Jump) (s : State) : StepOutcome :=
  execC .regA (.ofCode 0b000111#6) dest jump s

/-- `M-D`: M minus D (rule R236). -/
def execMMinusD (dest : Dest) (jump : Jump) (s : State) : StepOutcome :=
  execC .mem (.ofCode 0b000111#6) dest jump s

/-- `D&A`: AND of D and A (rule R237). -/
def execDAndA (dest : Dest) (jump : Jump) (s : State) : StepOutcome :=
  execC .regA (.ofCode 0b000000#6) dest jump s

/-- `D&M`: AND of D and M (rule R238). -/
def execDAndM (dest : Dest) (jump : Jump) (s : State) : StepOutcome :=
  execC .mem (.ofCode 0b000000#6) dest jump s

/-- `D|A`: OR of D and A (rule R239). -/
def execDOrA (dest : Dest) (jump : Jump) (s : State) : StepOutcome :=
  execC .regA (.ofCode 0b010101#6) dest jump s

/-- `D|M`: OR of D and M (rule R240). -/
def execDOrM (dest : Dest) (jump : Jump) (s : State) : StepOutcome :=
  execC .mem (.ofCode 0b010101#6) dest jump s

end Sys2Proof.Machine
end

