-- ==== Sys2Proof/Machine/CUnnamed.lean ====
section
/-! DEFINITION. The 100 computations without a mnemonic (rules R113 and R241): each executes the ALU function its
control bits select. -/

namespace Sys2Proof.Machine

/-- comp 0000001: `!(D&A)` (rule R241). -/
def execComp0000001 (dest : Dest) (jump : Jump) (s : State) : StepOutcome :=
  execC .regA (.ofCode 0b000001#6) dest jump s

/-- comp 0000011: `-D-A-1` (rule R241). -/
def execComp0000011 (dest : Dest) (jump : Jump) (s : State) : StepOutcome :=
  execC .regA (.ofCode 0b000011#6) dest jump s

/-- comp 0000100: `D&!A` (rule R241). -/
def execComp0000100 (dest : Dest) (jump : Jump) (s : State) : StepOutcome :=
  execC .regA (.ofCode 0b000100#6) dest jump s

/-- comp 0000101: `!D|A` (rule R241). -/
def execComp0000101 (dest : Dest) (jump : Jump) (s : State) : StepOutcome :=
  execC .regA (.ofCode 0b000101#6) dest jump s

/-- comp 0000110: `D-A-1` (rule R241). -/
def execComp0000110 (dest : Dest) (jump : Jump) (s : State) : StepOutcome :=
  execC .regA (.ofCode 0b000110#6) dest jump s

/-- comp 0001000: `0` (rule R241). -/
def execComp0001000 (dest : Dest) (jump : Jump) (s : State) : StepOutcome :=
  execC .regA (.ofCode 0b001000#6) dest jump s

/-- comp 0001001: `-1` (rule R241). -/
def execComp0001001 (dest : Dest) (jump : Jump) (s : State) : StepOutcome :=
  execC .regA (.ofCode 0b001001#6) dest jump s

/-- comp 0001010: `D` (rule R241). -/
def execComp0001010 (dest : Dest) (jump : Jump) (s : State) : StepOutcome :=
  execC .regA (.ofCode 0b001010#6) dest jump s

/-- comp 0001011: `!D` (rule R241). -/
def execComp0001011 (dest : Dest) (jump : Jump) (s : State) : StepOutcome :=
  execC .regA (.ofCode 0b001011#6) dest jump s

/-- comp 0010000: `!D&A` (rule R241). -/
def execComp0010000 (dest : Dest) (jump : Jump) (s : State) : StepOutcome :=
  execC .regA (.ofCode 0b010000#6) dest jump s

/-- comp 0010001: `D|!A` (rule R241). -/
def execComp0010001 (dest : Dest) (jump : Jump) (s : State) : StepOutcome :=
  execC .regA (.ofCode 0b010001#6) dest jump s

/-- comp 0010010: `A-D-1` (rule R241). -/
def execComp0010010 (dest : Dest) (jump : Jump) (s : State) : StepOutcome :=
  execC .regA (.ofCode 0b010010#6) dest jump s

/-- comp 0010100: `!(D|A)` (rule R241). -/
def execComp0010100 (dest : Dest) (jump : Jump) (s : State) : StepOutcome :=
  execC .regA (.ofCode 0b010100#6) dest jump s

/-- comp 0010110: `-D-A-2` (rule R241). -/
def execComp0010110 (dest : Dest) (jump : Jump) (s : State) : StepOutcome :=
  execC .regA (.ofCode 0b010110#6) dest jump s

/-- comp 0010111: `D+A+1` (rule R241). -/
def execComp0010111 (dest : Dest) (jump : Jump) (s : State) : StepOutcome :=
  execC .regA (.ofCode 0b010111#6) dest jump s

/-- comp 0011000: `0` (rule R241). -/
def execComp0011000 (dest : Dest) (jump : Jump) (s : State) : StepOutcome :=
  execC .regA (.ofCode 0b011000#6) dest jump s

/-- comp 0011001: `-1` (rule R241). -/
def execComp0011001 (dest : Dest) (jump : Jump) (s : State) : StepOutcome :=
  execC .regA (.ofCode 0b011001#6) dest jump s

/-- comp 0011010: `!D` (rule R241). -/
def execComp0011010 (dest : Dest) (jump : Jump) (s : State) : StepOutcome :=
  execC .regA (.ofCode 0b011010#6) dest jump s

/-- comp 0011011: `D` (rule R241). -/
def execComp0011011 (dest : Dest) (jump : Jump) (s : State) : StepOutcome :=
  execC .regA (.ofCode 0b011011#6) dest jump s

/-- comp 0011100: `!D` (rule R241). -/
def execComp0011100 (dest : Dest) (jump : Jump) (s : State) : StepOutcome :=
  execC .regA (.ofCode 0b011100#6) dest jump s

/-- comp 0011101: `D` (rule R241). -/
def execComp0011101 (dest : Dest) (jump : Jump) (s : State) : StepOutcome :=
  execC .regA (.ofCode 0b011101#6) dest jump s

/-- comp 0011110: `-D-2` (rule R241). -/
def execComp0011110 (dest : Dest) (jump : Jump) (s : State) : StepOutcome :=
  execC .regA (.ofCode 0b011110#6) dest jump s

/-- comp 0100000: `0` (rule R241). -/
def execComp0100000 (dest : Dest) (jump : Jump) (s : State) : StepOutcome :=
  execC .regA (.ofCode 0b100000#6) dest jump s

/-- comp 0100001: `-1` (rule R241). -/
def execComp0100001 (dest : Dest) (jump : Jump) (s : State) : StepOutcome :=
  execC .regA (.ofCode 0b100001#6) dest jump s

/-- comp 0100010: `A` (rule R241). -/
def execComp0100010 (dest : Dest) (jump : Jump) (s : State) : StepOutcome :=
  execC .regA (.ofCode 0b100010#6) dest jump s

/-- comp 0100011: `!A` (rule R241). -/
def execComp0100011 (dest : Dest) (jump : Jump) (s : State) : StepOutcome :=
  execC .regA (.ofCode 0b100011#6) dest jump s

/-- comp 0100100: `0` (rule R241). -/
def execComp0100100 (dest : Dest) (jump : Jump) (s : State) : StepOutcome :=
  execC .regA (.ofCode 0b100100#6) dest jump s

/-- comp 0100101: `-1` (rule R241). -/
def execComp0100101 (dest : Dest) (jump : Jump) (s : State) : StepOutcome :=
  execC .regA (.ofCode 0b100101#6) dest jump s

/-- comp 0100110: `!A` (rule R241). -/
def execComp0100110 (dest : Dest) (jump : Jump) (s : State) : StepOutcome :=
  execC .regA (.ofCode 0b100110#6) dest jump s

/-- comp 0100111: `A` (rule R241). -/
def execComp0100111 (dest : Dest) (jump : Jump) (s : State) : StepOutcome :=
  execC .regA (.ofCode 0b100111#6) dest jump s

/-- comp 0101000: `0` (rule R241). -/
def execComp0101000 (dest : Dest) (jump : Jump) (s : State) : StepOutcome :=
  execC .regA (.ofCode 0b101000#6) dest jump s

/-- comp 0101001: `-1` (rule R241). -/
def execComp0101001 (dest : Dest) (jump : Jump) (s : State) : StepOutcome :=
  execC .regA (.ofCode 0b101001#6) dest jump s

/-- comp 0101011: `-1` (rule R241). -/
def execComp0101011 (dest : Dest) (jump : Jump) (s : State) : StepOutcome :=
  execC .regA (.ofCode 0b101011#6) dest jump s

/-- comp 0101100: `0` (rule R241). -/
def execComp0101100 (dest : Dest) (jump : Jump) (s : State) : StepOutcome :=
  execC .regA (.ofCode 0b101100#6) dest jump s

/-- comp 0101101: `-1` (rule R241). -/
def execComp0101101 (dest : Dest) (jump : Jump) (s : State) : StepOutcome :=
  execC .regA (.ofCode 0b101101#6) dest jump s

/-- comp 0101110: `-1` (rule R241). -/
def execComp0101110 (dest : Dest) (jump : Jump) (s : State) : StepOutcome :=
  execC .regA (.ofCode 0b101110#6) dest jump s

/-- comp 0101111: `0` (rule R241). -/
def execComp0101111 (dest : Dest) (jump : Jump) (s : State) : StepOutcome :=
  execC .regA (.ofCode 0b101111#6) dest jump s

/-- comp 0110100: `!A` (rule R241). -/
def execComp0110100 (dest : Dest) (jump : Jump) (s : State) : StepOutcome :=
  execC .regA (.ofCode 0b110100#6) dest jump s

/-- comp 0110101: `A` (rule R241). -/
def execComp0110101 (dest : Dest) (jump : Jump) (s : State) : StepOutcome :=
  execC .regA (.ofCode 0b110101#6) dest jump s

/-- comp 0110110: `-A-2` (rule R241). -/
def execComp0110110 (dest : Dest) (jump : Jump) (s : State) : StepOutcome :=
  execC .regA (.ofCode 0b110110#6) dest jump s

/-- comp 0111000: `0` (rule R241). -/
def execComp0111000 (dest : Dest) (jump : Jump) (s : State) : StepOutcome :=
  execC .regA (.ofCode 0b111000#6) dest jump s

/-- comp 0111001: `-1` (rule R241). -/
def execComp0111001 (dest : Dest) (jump : Jump) (s : State) : StepOutcome :=
  execC .regA (.ofCode 0b111001#6) dest jump s

/-- comp 0111011: `0` (rule R241). -/
def execComp0111011 (dest : Dest) (jump : Jump) (s : State) : StepOutcome :=
  execC .regA (.ofCode 0b111011#6) dest jump s

/-- comp 0111100: `-1` (rule R241). -/
def execComp0111100 (dest : Dest) (jump : Jump) (s : State) : StepOutcome :=
  execC .regA (.ofCode 0b111100#6) dest jump s

/-- comp 0111101: `0` (rule R241). -/
def execComp0111101 (dest : Dest) (jump : Jump) (s : State) : StepOutcome :=
  execC .regA (.ofCode 0b111101#6) dest jump s

/-- comp 0111110: `-2` (rule R241). -/
def execComp0111110 (dest : Dest) (jump : Jump) (s : State) : StepOutcome :=
  execC .regA (.ofCode 0b111110#6) dest jump s

/-- comp 1000001: `!(D&M)` (rule R241). -/
def execComp1000001 (dest : Dest) (jump : Jump) (s : State) : StepOutcome :=
  execC .mem (.ofCode 0b000001#6) dest jump s

/-- comp 1000011: `-D-M-1` (rule R241). -/
def execComp1000011 (dest : Dest) (jump : Jump) (s : State) : StepOutcome :=
  execC .mem (.ofCode 0b000011#6) dest jump s

/-- comp 1000100: `D&!M` (rule R241). -/
def execComp1000100 (dest : Dest) (jump : Jump) (s : State) : StepOutcome :=
  execC .mem (.ofCode 0b000100#6) dest jump s

/-- comp 1000101: `!D|M` (rule R241). -/
def execComp1000101 (dest : Dest) (jump : Jump) (s : State) : StepOutcome :=
  execC .mem (.ofCode 0b000101#6) dest jump s

/-- comp 1000110: `D-M-1` (rule R241). -/
def execComp1000110 (dest : Dest) (jump : Jump) (s : State) : StepOutcome :=
  execC .mem (.ofCode 0b000110#6) dest jump s

/-- comp 1001000: `0` (rule R241). -/
def execComp1001000 (dest : Dest) (jump : Jump) (s : State) : StepOutcome :=
  execC .mem (.ofCode 0b001000#6) dest jump s

/-- comp 1001001: `-1` (rule R241). -/
def execComp1001001 (dest : Dest) (jump : Jump) (s : State) : StepOutcome :=
  execC .mem (.ofCode 0b001001#6) dest jump s

/-- comp 1001010: `D` (rule R241). -/
def execComp1001010 (dest : Dest) (jump : Jump) (s : State) : StepOutcome :=
  execC .mem (.ofCode 0b001010#6) dest jump s

/-- comp 1001011: `!D` (rule R241). -/
def execComp1001011 (dest : Dest) (jump : Jump) (s : State) : StepOutcome :=
  execC .mem (.ofCode 0b001011#6) dest jump s

/-- comp 1001100: `D` (rule R241). -/
def execComp1001100 (dest : Dest) (jump : Jump) (s : State) : StepOutcome :=
  execC .mem (.ofCode 0b001100#6) dest jump s

/-- comp 1001101: `!D` (rule R241). -/
def execComp1001101 (dest : Dest) (jump : Jump) (s : State) : StepOutcome :=
  execC .mem (.ofCode 0b001101#6) dest jump s

/-- comp 1001110: `D-1` (rule R241). -/
def execComp1001110 (dest : Dest) (jump : Jump) (s : State) : StepOutcome :=
  execC .mem (.ofCode 0b001110#6) dest jump s

/-- comp 1001111: `-D` (rule R241). -/
def execComp1001111 (dest : Dest) (jump : Jump) (s : State) : StepOutcome :=
  execC .mem (.ofCode 0b001111#6) dest jump s

/-- comp 1010000: `!D&M` (rule R241). -/
def execComp1010000 (dest : Dest) (jump : Jump) (s : State) : StepOutcome :=
  execC .mem (.ofCode 0b010000#6) dest jump s

/-- comp 1010001: `D|!M` (rule R241). -/
def execComp1010001 (dest : Dest) (jump : Jump) (s : State) : StepOutcome :=
  execC .mem (.ofCode 0b010001#6) dest jump s

/-- comp 1010010: `M-D-1` (rule R241). -/
def execComp1010010 (dest : Dest) (jump : Jump) (s : State) : StepOutcome :=
  execC .mem (.ofCode 0b010010#6) dest jump s

/-- comp 1010100: `!(D|M)` (rule R241). -/
def execComp1010100 (dest : Dest) (jump : Jump) (s : State) : StepOutcome :=
  execC .mem (.ofCode 0b010100#6) dest jump s

/-- comp 1010110: `-D-M-2` (rule R241). -/
def execComp1010110 (dest : Dest) (jump : Jump) (s : State) : StepOutcome :=
  execC .mem (.ofCode 0b010110#6) dest jump s

/-- comp 1010111: `D+M+1` (rule R241). -/
def execComp1010111 (dest : Dest) (jump : Jump) (s : State) : StepOutcome :=
  execC .mem (.ofCode 0b010111#6) dest jump s

/-- comp 1011000: `0` (rule R241). -/
def execComp1011000 (dest : Dest) (jump : Jump) (s : State) : StepOutcome :=
  execC .mem (.ofCode 0b011000#6) dest jump s

/-- comp 1011001: `-1` (rule R241). -/
def execComp1011001 (dest : Dest) (jump : Jump) (s : State) : StepOutcome :=
  execC .mem (.ofCode 0b011001#6) dest jump s

/-- comp 1011010: `!D` (rule R241). -/
def execComp1011010 (dest : Dest) (jump : Jump) (s : State) : StepOutcome :=
  execC .mem (.ofCode 0b011010#6) dest jump s

/-- comp 1011011: `D` (rule R241). -/
def execComp1011011 (dest : Dest) (jump : Jump) (s : State) : StepOutcome :=
  execC .mem (.ofCode 0b011011#6) dest jump s

/-- comp 1011100: `!D` (rule R241). -/
def execComp1011100 (dest : Dest) (jump : Jump) (s : State) : StepOutcome :=
  execC .mem (.ofCode 0b011100#6) dest jump s

/-- comp 1011101: `D` (rule R241). -/
def execComp1011101 (dest : Dest) (jump : Jump) (s : State) : StepOutcome :=
  execC .mem (.ofCode 0b011101#6) dest jump s

/-- comp 1011110: `-D-2` (rule R241). -/
def execComp1011110 (dest : Dest) (jump : Jump) (s : State) : StepOutcome :=
  execC .mem (.ofCode 0b011110#6) dest jump s

/-- comp 1011111: `D+1` (rule R241). -/
def execComp1011111 (dest : Dest) (jump : Jump) (s : State) : StepOutcome :=
  execC .mem (.ofCode 0b011111#6) dest jump s

/-- comp 1100000: `0` (rule R241). -/
def execComp1100000 (dest : Dest) (jump : Jump) (s : State) : StepOutcome :=
  execC .mem (.ofCode 0b100000#6) dest jump s

/-- comp 1100001: `-1` (rule R241). -/
def execComp1100001 (dest : Dest) (jump : Jump) (s : State) : StepOutcome :=
  execC .mem (.ofCode 0b100001#6) dest jump s

/-- comp 1100010: `M` (rule R241). -/
def execComp1100010 (dest : Dest) (jump : Jump) (s : State) : StepOutcome :=
  execC .mem (.ofCode 0b100010#6) dest jump s

/-- comp 1100011: `!M` (rule R241). -/
def execComp1100011 (dest : Dest) (jump : Jump) (s : State) : StepOutcome :=
  execC .mem (.ofCode 0b100011#6) dest jump s

/-- comp 1100100: `0` (rule R241). -/
def execComp1100100 (dest : Dest) (jump : Jump) (s : State) : StepOutcome :=
  execC .mem (.ofCode 0b100100#6) dest jump s

/-- comp 1100101: `-1` (rule R241). -/
def execComp1100101 (dest : Dest) (jump : Jump) (s : State) : StepOutcome :=
  execC .mem (.ofCode 0b100101#6) dest jump s

/-- comp 1100110: `!M` (rule R241). -/
def execComp1100110 (dest : Dest) (jump : Jump) (s : State) : StepOutcome :=
  execC .mem (.ofCode 0b100110#6) dest jump s

/-- comp 1100111: `M` (rule R241). -/
def execComp1100111 (dest : Dest) (jump : Jump) (s : State) : StepOutcome :=
  execC .mem (.ofCode 0b100111#6) dest jump s

/-- comp 1101000: `0` (rule R241). -/
def execComp1101000 (dest : Dest) (jump : Jump) (s : State) : StepOutcome :=
  execC .mem (.ofCode 0b101000#6) dest jump s

/-- comp 1101001: `-1` (rule R241). -/
def execComp1101001 (dest : Dest) (jump : Jump) (s : State) : StepOutcome :=
  execC .mem (.ofCode 0b101001#6) dest jump s

/-- comp 1101010: `0` (rule R241). -/
def execComp1101010 (dest : Dest) (jump : Jump) (s : State) : StepOutcome :=
  execC .mem (.ofCode 0b101010#6) dest jump s

/-- comp 1101011: `-1` (rule R241). -/
def execComp1101011 (dest : Dest) (jump : Jump) (s : State) : StepOutcome :=
  execC .mem (.ofCode 0b101011#6) dest jump s

/-- comp 1101100: `0` (rule R241). -/
def execComp1101100 (dest : Dest) (jump : Jump) (s : State) : StepOutcome :=
  execC .mem (.ofCode 0b101100#6) dest jump s

/-- comp 1101101: `-1` (rule R241). -/
def execComp1101101 (dest : Dest) (jump : Jump) (s : State) : StepOutcome :=
  execC .mem (.ofCode 0b101101#6) dest jump s

/-- comp 1101110: `-1` (rule R241). -/
def execComp1101110 (dest : Dest) (jump : Jump) (s : State) : StepOutcome :=
  execC .mem (.ofCode 0b101110#6) dest jump s

/-- comp 1101111: `0` (rule R241). -/
def execComp1101111 (dest : Dest) (jump : Jump) (s : State) : StepOutcome :=
  execC .mem (.ofCode 0b101111#6) dest jump s

/-- comp 1110100: `!M` (rule R241). -/
def execComp1110100 (dest : Dest) (jump : Jump) (s : State) : StepOutcome :=
  execC .mem (.ofCode 0b110100#6) dest jump s

/-- comp 1110101: `M` (rule R241). -/
def execComp1110101 (dest : Dest) (jump : Jump) (s : State) : StepOutcome :=
  execC .mem (.ofCode 0b110101#6) dest jump s

/-- comp 1110110: `-M-2` (rule R241). -/
def execComp1110110 (dest : Dest) (jump : Jump) (s : State) : StepOutcome :=
  execC .mem (.ofCode 0b110110#6) dest jump s

/-- comp 1111000: `0` (rule R241). -/
def execComp1111000 (dest : Dest) (jump : Jump) (s : State) : StepOutcome :=
  execC .mem (.ofCode 0b111000#6) dest jump s

/-- comp 1111001: `-1` (rule R241). -/
def execComp1111001 (dest : Dest) (jump : Jump) (s : State) : StepOutcome :=
  execC .mem (.ofCode 0b111001#6) dest jump s

/-- comp 1111010: `-1` (rule R241). -/
def execComp1111010 (dest : Dest) (jump : Jump) (s : State) : StepOutcome :=
  execC .mem (.ofCode 0b111010#6) dest jump s

/-- comp 1111011: `0` (rule R241). -/
def execComp1111011 (dest : Dest) (jump : Jump) (s : State) : StepOutcome :=
  execC .mem (.ofCode 0b111011#6) dest jump s

/-- comp 1111100: `-1` (rule R241). -/
def execComp1111100 (dest : Dest) (jump : Jump) (s : State) : StepOutcome :=
  execC .mem (.ofCode 0b111100#6) dest jump s

/-- comp 1111101: `0` (rule R241). -/
def execComp1111101 (dest : Dest) (jump : Jump) (s : State) : StepOutcome :=
  execC .mem (.ofCode 0b111101#6) dest jump s

/-- comp 1111110: `-2` (rule R241). -/
def execComp1111110 (dest : Dest) (jump : Jump) (s : State) : StepOutcome :=
  execC .mem (.ofCode 0b111110#6) dest jump s

/-- comp 1111111: `1` (rule R241). -/
def execComp1111111 (dest : Dest) (jump : Jump) (s : State) : StepOutcome :=
  execC .mem (.ofCode 0b111111#6) dest jump s

end Sys2Proof.Machine
end

