-- ==== Sys2Proof/Machine/Dispatch.lean ====
section
/-! DEFINITION. One arm per instruction, each one call of its meaning. -/

namespace Sys2Proof.Machine

def exec (i : Instr) (s : State) : Host.Outcome State Fault Refusal :=
  match i with
  -- The A-instruction
  | .atValue value => Sys2Proof.Machine.execAtValue value s
  -- The named computations
  | .zero dest jump => Sys2Proof.Machine.execZero dest jump s
  | .one dest jump => Sys2Proof.Machine.execOne dest jump s
  | .negOne dest jump => Sys2Proof.Machine.execNegOne dest jump s
  | .passD dest jump => Sys2Proof.Machine.execPassD dest jump s
  | .passA dest jump => Sys2Proof.Machine.execPassA dest jump s
  | .passM dest jump => Sys2Proof.Machine.execPassM dest jump s
  | .notD dest jump => Sys2Proof.Machine.execNotD dest jump s
  | .notA dest jump => Sys2Proof.Machine.execNotA dest jump s
  | .notM dest jump => Sys2Proof.Machine.execNotM dest jump s
  | .negD dest jump => Sys2Proof.Machine.execNegD dest jump s
  | .negA dest jump => Sys2Proof.Machine.execNegA dest jump s
  | .negM dest jump => Sys2Proof.Machine.execNegM dest jump s
  | .incD dest jump => Sys2Proof.Machine.execIncD dest jump s
  | .incA dest jump => Sys2Proof.Machine.execIncA dest jump s
  | .incM dest jump => Sys2Proof.Machine.execIncM dest jump s
  | .decD dest jump => Sys2Proof.Machine.execDecD dest jump s
  | .decA dest jump => Sys2Proof.Machine.execDecA dest jump s
  | .decM dest jump => Sys2Proof.Machine.execDecM dest jump s
  | .dPlusA dest jump => Sys2Proof.Machine.execDPlusA dest jump s
  | .dPlusM dest jump => Sys2Proof.Machine.execDPlusM dest jump s
  | .dMinusA dest jump => Sys2Proof.Machine.execDMinusA dest jump s
  | .dMinusM dest jump => Sys2Proof.Machine.execDMinusM dest jump s
  | .aMinusD dest jump => Sys2Proof.Machine.execAMinusD dest jump s
  | .mMinusD dest jump => Sys2Proof.Machine.execMMinusD dest jump s
  | .dAndA dest jump => Sys2Proof.Machine.execDAndA dest jump s
  | .dAndM dest jump => Sys2Proof.Machine.execDAndM dest jump s
  | .dOrA dest jump => Sys2Proof.Machine.execDOrA dest jump s
  | .dOrM dest jump => Sys2Proof.Machine.execDOrM dest jump s
  -- The computations without a mnemonic
  | .comp0000001 dest jump => Sys2Proof.Machine.execComp0000001 dest jump s
  | .comp0000011 dest jump => Sys2Proof.Machine.execComp0000011 dest jump s
  | .comp0000100 dest jump => Sys2Proof.Machine.execComp0000100 dest jump s
  | .comp0000101 dest jump => Sys2Proof.Machine.execComp0000101 dest jump s
  | .comp0000110 dest jump => Sys2Proof.Machine.execComp0000110 dest jump s
  | .comp0001000 dest jump => Sys2Proof.Machine.execComp0001000 dest jump s
  | .comp0001001 dest jump => Sys2Proof.Machine.execComp0001001 dest jump s
  | .comp0001010 dest jump => Sys2Proof.Machine.execComp0001010 dest jump s
  | .comp0001011 dest jump => Sys2Proof.Machine.execComp0001011 dest jump s
  | .comp0010000 dest jump => Sys2Proof.Machine.execComp0010000 dest jump s
  | .comp0010001 dest jump => Sys2Proof.Machine.execComp0010001 dest jump s
  | .comp0010010 dest jump => Sys2Proof.Machine.execComp0010010 dest jump s
  | .comp0010100 dest jump => Sys2Proof.Machine.execComp0010100 dest jump s
  | .comp0010110 dest jump => Sys2Proof.Machine.execComp0010110 dest jump s
  | .comp0010111 dest jump => Sys2Proof.Machine.execComp0010111 dest jump s
  | .comp0011000 dest jump => Sys2Proof.Machine.execComp0011000 dest jump s
  | .comp0011001 dest jump => Sys2Proof.Machine.execComp0011001 dest jump s
  | .comp0011010 dest jump => Sys2Proof.Machine.execComp0011010 dest jump s
  | .comp0011011 dest jump => Sys2Proof.Machine.execComp0011011 dest jump s
  | .comp0011100 dest jump => Sys2Proof.Machine.execComp0011100 dest jump s
  | .comp0011101 dest jump => Sys2Proof.Machine.execComp0011101 dest jump s
  | .comp0011110 dest jump => Sys2Proof.Machine.execComp0011110 dest jump s
  | .comp0100000 dest jump => Sys2Proof.Machine.execComp0100000 dest jump s
  | .comp0100001 dest jump => Sys2Proof.Machine.execComp0100001 dest jump s
  | .comp0100010 dest jump => Sys2Proof.Machine.execComp0100010 dest jump s
  | .comp0100011 dest jump => Sys2Proof.Machine.execComp0100011 dest jump s
  | .comp0100100 dest jump => Sys2Proof.Machine.execComp0100100 dest jump s
  | .comp0100101 dest jump => Sys2Proof.Machine.execComp0100101 dest jump s
  | .comp0100110 dest jump => Sys2Proof.Machine.execComp0100110 dest jump s
  | .comp0100111 dest jump => Sys2Proof.Machine.execComp0100111 dest jump s
  | .comp0101000 dest jump => Sys2Proof.Machine.execComp0101000 dest jump s
  | .comp0101001 dest jump => Sys2Proof.Machine.execComp0101001 dest jump s
  | .comp0101011 dest jump => Sys2Proof.Machine.execComp0101011 dest jump s
  | .comp0101100 dest jump => Sys2Proof.Machine.execComp0101100 dest jump s
  | .comp0101101 dest jump => Sys2Proof.Machine.execComp0101101 dest jump s
  | .comp0101110 dest jump => Sys2Proof.Machine.execComp0101110 dest jump s
  | .comp0101111 dest jump => Sys2Proof.Machine.execComp0101111 dest jump s
  | .comp0110100 dest jump => Sys2Proof.Machine.execComp0110100 dest jump s
  | .comp0110101 dest jump => Sys2Proof.Machine.execComp0110101 dest jump s
  | .comp0110110 dest jump => Sys2Proof.Machine.execComp0110110 dest jump s
  | .comp0111000 dest jump => Sys2Proof.Machine.execComp0111000 dest jump s
  | .comp0111001 dest jump => Sys2Proof.Machine.execComp0111001 dest jump s
  | .comp0111011 dest jump => Sys2Proof.Machine.execComp0111011 dest jump s
  | .comp0111100 dest jump => Sys2Proof.Machine.execComp0111100 dest jump s
  | .comp0111101 dest jump => Sys2Proof.Machine.execComp0111101 dest jump s
  | .comp0111110 dest jump => Sys2Proof.Machine.execComp0111110 dest jump s
  | .comp1000001 dest jump => Sys2Proof.Machine.execComp1000001 dest jump s
  | .comp1000011 dest jump => Sys2Proof.Machine.execComp1000011 dest jump s
  | .comp1000100 dest jump => Sys2Proof.Machine.execComp1000100 dest jump s
  | .comp1000101 dest jump => Sys2Proof.Machine.execComp1000101 dest jump s
  | .comp1000110 dest jump => Sys2Proof.Machine.execComp1000110 dest jump s
  | .comp1001000 dest jump => Sys2Proof.Machine.execComp1001000 dest jump s
  | .comp1001001 dest jump => Sys2Proof.Machine.execComp1001001 dest jump s
  | .comp1001010 dest jump => Sys2Proof.Machine.execComp1001010 dest jump s
  | .comp1001011 dest jump => Sys2Proof.Machine.execComp1001011 dest jump s
  | .comp1001100 dest jump => Sys2Proof.Machine.execComp1001100 dest jump s
  | .comp1001101 dest jump => Sys2Proof.Machine.execComp1001101 dest jump s
  | .comp1001110 dest jump => Sys2Proof.Machine.execComp1001110 dest jump s
  | .comp1001111 dest jump => Sys2Proof.Machine.execComp1001111 dest jump s
  | .comp1010000 dest jump => Sys2Proof.Machine.execComp1010000 dest jump s
  | .comp1010001 dest jump => Sys2Proof.Machine.execComp1010001 dest jump s
  | .comp1010010 dest jump => Sys2Proof.Machine.execComp1010010 dest jump s
  | .comp1010100 dest jump => Sys2Proof.Machine.execComp1010100 dest jump s
  | .comp1010110 dest jump => Sys2Proof.Machine.execComp1010110 dest jump s
  | .comp1010111 dest jump => Sys2Proof.Machine.execComp1010111 dest jump s
  | .comp1011000 dest jump => Sys2Proof.Machine.execComp1011000 dest jump s
  | .comp1011001 dest jump => Sys2Proof.Machine.execComp1011001 dest jump s
  | .comp1011010 dest jump => Sys2Proof.Machine.execComp1011010 dest jump s
  | .comp1011011 dest jump => Sys2Proof.Machine.execComp1011011 dest jump s
  | .comp1011100 dest jump => Sys2Proof.Machine.execComp1011100 dest jump s
  | .comp1011101 dest jump => Sys2Proof.Machine.execComp1011101 dest jump s
  | .comp1011110 dest jump => Sys2Proof.Machine.execComp1011110 dest jump s
  | .comp1011111 dest jump => Sys2Proof.Machine.execComp1011111 dest jump s
  | .comp1100000 dest jump => Sys2Proof.Machine.execComp1100000 dest jump s
  | .comp1100001 dest jump => Sys2Proof.Machine.execComp1100001 dest jump s
  | .comp1100010 dest jump => Sys2Proof.Machine.execComp1100010 dest jump s
  | .comp1100011 dest jump => Sys2Proof.Machine.execComp1100011 dest jump s
  | .comp1100100 dest jump => Sys2Proof.Machine.execComp1100100 dest jump s
  | .comp1100101 dest jump => Sys2Proof.Machine.execComp1100101 dest jump s
  | .comp1100110 dest jump => Sys2Proof.Machine.execComp1100110 dest jump s
  | .comp1100111 dest jump => Sys2Proof.Machine.execComp1100111 dest jump s
  | .comp1101000 dest jump => Sys2Proof.Machine.execComp1101000 dest jump s
  | .comp1101001 dest jump => Sys2Proof.Machine.execComp1101001 dest jump s
  | .comp1101010 dest jump => Sys2Proof.Machine.execComp1101010 dest jump s
  | .comp1101011 dest jump => Sys2Proof.Machine.execComp1101011 dest jump s
  | .comp1101100 dest jump => Sys2Proof.Machine.execComp1101100 dest jump s
  | .comp1101101 dest jump => Sys2Proof.Machine.execComp1101101 dest jump s
  | .comp1101110 dest jump => Sys2Proof.Machine.execComp1101110 dest jump s
  | .comp1101111 dest jump => Sys2Proof.Machine.execComp1101111 dest jump s
  | .comp1110100 dest jump => Sys2Proof.Machine.execComp1110100 dest jump s
  | .comp1110101 dest jump => Sys2Proof.Machine.execComp1110101 dest jump s
  | .comp1110110 dest jump => Sys2Proof.Machine.execComp1110110 dest jump s
  | .comp1111000 dest jump => Sys2Proof.Machine.execComp1111000 dest jump s
  | .comp1111001 dest jump => Sys2Proof.Machine.execComp1111001 dest jump s
  | .comp1111010 dest jump => Sys2Proof.Machine.execComp1111010 dest jump s
  | .comp1111011 dest jump => Sys2Proof.Machine.execComp1111011 dest jump s
  | .comp1111100 dest jump => Sys2Proof.Machine.execComp1111100 dest jump s
  | .comp1111101 dest jump => Sys2Proof.Machine.execComp1111101 dest jump s
  | .comp1111110 dest jump => Sys2Proof.Machine.execComp1111110 dest jump s
  | .comp1111111 dest jump => Sys2Proof.Machine.execComp1111111 dest jump s
  -- The malformed C words
  | .malformed00 y ctl dest jump => Sys2Proof.Machine.execMalformed00 y ctl dest jump s
  | .malformed01 y ctl dest jump => Sys2Proof.Machine.execMalformed01 y ctl dest jump s
  | .malformed10 y ctl dest jump => Sys2Proof.Machine.execMalformed10 y ctl dest jump s

end Sys2Proof.Machine
end

