-- ==== Sys2Proof/Machine/Step.lean ====
section
/-! DEFINITION. One step of the machine: one tick (rules R300 and R310). -/

namespace Sys2Proof.Machine

/-- One tick: fetch at the program counter, decode, execute (rules R302 and R310). The tick's `reset` input is the
field `resetIn`. -/
def step (s : State) : StepOutcome := exec (decodeWord s.fetch) s.beginTick

/-- The state with the table's instruction word stored in the ROM word that the next step fetches. It stands for a
`loadProgram` that put the word there (log 13). -/
def State.withFetchWord (s : State) (nbits w : Nat) : State :=
  { s with rom := s.rom.write (low15 s.pc).toNat (tableWord nbits w) }

end Sys2Proof.Machine
end

