-- ==== Sys2Proof/Machine/Assembler.lean ====
section
/-! DEFINITION. The assembly language and the codec around the block (30_encoding.md sections 7 to 9). Text is a list
of characters. Nothing here is part of a tick (rule R346). -/

namespace Sys2Proof.Machine

/-- A line or a name. -/
abbrev Text := List Char

/-! ## Numbers -/

/-- The decimal digit of a number below 10. -/
def digitChar (n : Nat) : Char := Char.ofNat (48 + n % 10)

/-- The last `n` decimal digits of a number at most, with no leading zero. -/
def decimalDigits : Nat → Nat → Text
  | 0, _ => []
  | n + 1, v => if v < 10 then [digitChar v] else decimalDigits n (v / 10) ++ [digitChar v]

/-- A number up to five digits in decimal, as `toAssembly` prints it (rule R127). -/
def decimal (v : Nat) : Text := decimalDigits 5 v

/-- The number a string of digits spells, or none (rule R119). -/
def parseDecimal (t : Text) : Option Nat :=
  if t.isEmpty || !t.all Char.isDigit then none
  else some (t.foldl (fun n c => 10 * n + (c.toNat - 48)) 0)

/-! ## The symbol table (rules R122 and R123) -/

/-- The table: names with their 16-bit addresses (rule R122), first bound first, and the address the next variable
gets (rule R123). -/
structure SymbolTable where
  binds : List (Text × Word)
  nextVar : Word
deriving DecidableEq, Repr

/-- The address a name is bound to. -/
def SymbolTable.lookup (t : SymbolTable) (name : Text) : Option Word :=
  (t.binds.find? (fun b => b.1 == name)).map Prod.snd

/-- A name bound to an address: the one bound first, a fixed choice (rule R127, decision D18, log 17). -/
def SymbolTable.nameOf (t : SymbolTable) (addr : Word) : Option Text :=
  (t.binds.find? (fun b => b.2 == addr)).map Prod.fst

/-- Bind a name; a name that is bound keeps its address (rule R122; a repeated label is log 16). -/
def SymbolTable.bind (t : SymbolTable) (name : Text) (addr : Word) : SymbolTable :=
  match t.lookup name with
  | some _ => t
  | none => { t with binds := t.binds ++ [(name, addr)] }

/-- The table at the start: `R0` to `R15`, `SCREEN`, `KBD` and no others (rule R122; the values and the absence of
others are the spec's decisions D14 and D15, log 18). -/
def SymbolTable.predefined : SymbolTable where
  binds := (List.range 16).map (fun n => ('R' :: decimal n, BitVec.ofNat 16 n)) ++
    [("SCREEN".toList, BitVec.ofNat 16 Config.screenBase), ("KBD".toList, BitVec.ofNat 16 Config.kbdAddr)]
  nextVar := BitVec.ofNat 16 Config.firstVariable

/-- A character a name may hold (rule R119, decision D16, log 18). -/
def symbolChar (c : Char) : Bool := c.isAlphanum || c == '_' || c == '.' || c == '$' || c == ':'

/-- A name: not empty, every character allowed, the first no digit (rule R119, decision D16, log 18). -/
def isSymbol (t : Text) : Bool :=
  match t with
  | [] => false
  | c :: _ => !c.isDigit && t.all symbolChar

/-- A good table: every name is a symbol and no name is bound twice (rule R122). -/
def SymbolTable.wf (t : SymbolTable) : Bool :=
  t.binds.all (fun b => isSymbol b.1) && decide (t.binds.map Prod.fst).Nodup

/-! ## The field tables (rules R106, R107, R108 and R120) -/

/-- The seven destination spellings (rules R107 and R120). -/
def destTable : List (Text × Dest) :=
  [("M".toList, Dest.ofCode 0b001#3), ("D".toList, Dest.ofCode 0b010#3), ("MD".toList, Dest.ofCode 0b011#3),
    ("A".toList, Dest.ofCode 0b100#3), ("AM".toList, Dest.ofCode 0b101#3), ("AD".toList, Dest.ofCode 0b110#3),
    ("AMD".toList, Dest.ofCode 0b111#3)]

/-- The seven jump spellings (rules R108 and R120). -/
def jumpTable : List (Text × Jump) :=
  [("JGT".toList, Jump.ofCode 0b001#3), ("JEQ".toList, Jump.ofCode 0b010#3), ("JGE".toList, Jump.ofCode 0b011#3),
    ("JLT".toList, Jump.ofCode 0b100#3), ("JNE".toList, Jump.ofCode 0b101#3), ("JLE".toList, Jump.ofCode 0b110#3),
    ("JMP".toList, Jump.ofCode 0b111#3)]

/-- The 28 computation spellings with their 7-bit comp field (rule R106; the codes are the spec's general knowledge,
log 9). -/
def compTable : List (Text × BitVec 7) :=
  [("0".toList, 0b0101010#7), ("1".toList, 0b0111111#7), ("-1".toList, 0b0111010#7), ("D".toList, 0b0001100#7),
    ("A".toList, 0b0110000#7), ("M".toList, 0b1110000#7), ("!D".toList, 0b0001101#7), ("!A".toList, 0b0110001#7),
    ("!M".toList, 0b1110001#7), ("-D".toList, 0b0001111#7), ("-A".toList, 0b0110011#7), ("-M".toList, 0b1110011#7)] ++
  [("D+1".toList, 0b0011111#7), ("A+1".toList, 0b0110111#7), ("M+1".toList, 0b1110111#7), ("D-1".toList, 0b0001110#7),
    ("A-1".toList, 0b0110010#7), ("M-1".toList, 0b1110010#7), ("D+A".toList, 0b0000010#7), ("D+M".toList, 0b1000010#7),
    ("D-A".toList, 0b0010011#7), ("D-M".toList, 0b1010011#7), ("A-D".toList, 0b0000111#7), ("M-D".toList, 0b1000111#7)] ++
  [("D&A".toList, 0b0000000#7), ("D&M".toList, 0b1000000#7), ("D|A".toList, 0b0010101#7), ("D|M".toList, 0b1010101#7)]

/-- What a spelling stands for in a table. -/
def spelled {α : Type} (table : List (Text × α)) (t : Text) : Option α :=
  (table.find? (fun b => b.1 == t)).map Prod.snd

/-- How a table spells a value. -/
def spelling {α : Type} [DecidableEq α] (table : List (Text × α)) (v : α) : Option Text :=
  (table.find? (fun b => b.2 == v)).map Prod.fst

/-! ## Lines (rule R118) -/

/-- Drop a `//` comment (rule R118). -/
def stripComment : Text → Text
  | [] => []
  | '/' :: '/' :: _ => []
  | c :: cs => c :: stripComment cs

/-- Trim white space at both ends (rule R118; which characters are white space is log 15). -/
def trim (t : Text) : Text :=
  ((t.dropWhile Char.isWhitespace).reverse.dropWhile Char.isWhitespace).reverse

/-- The parse errors (rule R346). -/
inductive ParseError where
  | unknownMnemonic
  | malformedOperand
  | outOfRange
deriving DecidableEq, Repr

/-- Why a line gives no instruction (rules R126 and R346): it is none, or it has an error. -/
inductive LineError where
  | notInstruction
  | parse (e : ParseError)
deriving DecidableEq, Repr

/-- What a line is (rule R118); a line that opens with a parenthesis and is no `(NAME)` is log 15. -/
inductive Line where
  | blank
  | label (name : Text)
  | badLabel
  | code (body : Text)
deriving DecidableEq, Repr

/-- Trim and strip a line, and say which of the kinds it is (rules R118 and R121). -/
def classify (line : Text) : Line :=
  match trim (stripComment line) with
  | [] => .blank
  | '(' :: rest =>
    if rest.getLast? = some ')' && isSymbol rest.dropLast then .label rest.dropLast else .badLabel
  | body => .code body

/-! ## One instruction (rules R119, R120, R126 and R127) -/

/-- `value` as an A-instruction, if it fits 15 bits (rule R119; for a symbol decision D19, log 18). -/
def atOf (value : Nat) : Except LineError Instr :=
  if value ≤ Config.maxValue then .ok (.atValue (BitVec.ofNat 15 value)) else .error (.parse .outOfRange)

/-- The operand of `@`: a number, a bound name, or a new variable (rules R119 and R123). A variable that does not fit
is not bound (log 16). -/
def decodeAt (operand : Text) (t : SymbolTable) : Except LineError (Instr × SymbolTable) :=
  match parseDecimal operand with
  | some v => (atOf v).map (fun i => (i, t))
  | none =>
    if isSymbol operand then
      match t.lookup operand with
      | some v => (atOf v.toNat).map (fun i => (i, t))
      | none =>
        (atOf t.nextVar.toNat).map
          (fun i => (i, { binds := t.binds ++ [(operand, t.nextVar)], nextVar := t.nextVar + 1 }))
    else .error (.parse .malformedOperand)

/-- The text before the first `c`, and the text after it if there is one. -/
def splitAtChar (c : Char) : Text → Text × Option Text
  | [] => ([], none)
  | x :: xs =>
    if x = c then ([], some xs)
    else
      let (before, after) := splitAtChar c xs
      (x :: before, after)

/-- `[dest=]comp[;jump]` (rule R120; only the listed spellings, decision D17, log 18). -/
def decodeC (body : Text) : Option Instr :=
  let (destText, rest) := match splitAtChar '=' body with
    | (all, none) => (none, all)
    | (before, some after) => (some before, after)
  let (compText, jumpText) := splitAtChar ';' rest
  match spelled compTable compText with
  | none => none
  | some comp =>
    match destText.elim (some (Dest.ofCode 0b000#3)) (spelled destTable),
      jumpText.elim (some (Jump.ofCode 0b000#3)) (spelled jumpTable) with
    | some dest, some jump => some (cInstr (YSource.ofComp comp) (AluCtl.ofComp comp) dest jump)
    | _, _ => none

/-- `decodeAssembly(line, symbols)` (rule R126): the instruction and the table after it. An error leaves the caller's
table as it was. -/
def decodeAssembly (line : Text) (t : SymbolTable) : Except LineError (Instr × SymbolTable) :=
  match classify line with
  | .blank => .error .notInstruction
  | .label _ => .error .notInstruction
  | .badLabel => .error (.parse .malformedOperand)
  | .code ('@' :: operand) => decodeAt operand t
  | .code body =>
    match decodeC body with
    | some i => .ok (i, t)
    | none => .error (.parse .unknownMnemonic)

/-- `toAssembly` of a word that decodes (rule R127): none where no canonical text exists, for an unnamed comp code or a
malformed word (decision D18, log 17). -/
def assemblyOfWord (w : Word) (t : SymbolTable) : Option Text :=
  if w.getLsbD 15 then
    if w.getLsbD 14 && w.getLsbD 13 then
      (spelling compTable (compOf w)).map fun comp =>
        ((spelling destTable (destOf w)).map (fun dest => dest ++ ['='])).getD [] ++ comp ++
          ((spelling jumpTable (jumpOf w)).map (fun jump => ';' :: jump)).getD []
    else none
  else
    let v := valueOf w
    some ('@' :: (t.nameOf (v.setWidth 16)).getD (decimal v.toNat))

/-- `toAssembly(Instruction, symbols)` (rule R127). -/
def toAssembly (i : Instr) (t : SymbolTable) : Option Text := assemblyOfWord (encode i) t

/-! ## Programs (rules R121 to R124 and R129) -/

/-- The 16-bit address of a label with `n` instruction lines before it (rules R121 and R122). Past 65535, which only a
program far longer than the ROM reaches, it is 65535, and so no `@` of the label can be encoded (DESIGN CHOICE,
log 16). -/
def labelAddress (n : Nat) : Word := BitVec.ofNat 16 (min n 65535)

/-- Pass 1: bind every label to the number of instruction lines before it (rules R121 and R124). A line with a parse
error is counted as the instruction line it has the form of (DESIGN CHOICE, log 16). -/
def bindLabels : List Text → Nat → SymbolTable → SymbolTable
  | [], _, t => t
  | line :: lines, n, t =>
    match classify line with
    | .label name => bindLabels lines n (t.bind name (labelAddress n))
    | .code _ => bindLabels lines (n + 1) t
    | .blank => bindLabels lines n t
    | .badLabel => bindLabels lines n t

/-- Pass 2: decode the lines in order, passing the table on; a line that is no instruction is skipped, and a line with
an error is reported with its number and changes nothing (rules R124, R126 and R129). -/
def decodeLines : List Text → Nat → SymbolTable → List (Nat × Except ParseError Instr) × SymbolTable
  | [], _, t => ([], t)
  | line :: lines, n, t =>
    match decodeAssembly line t with
    | .ok (i, t') =>
      let (rest, last) := decodeLines lines (n + 1) t'
      ((n, .ok i) :: rest, last)
    | .error .notInstruction => decodeLines lines (n + 1) t
    | .error (.parse e) =>
      let (rest, last) := decodeLines lines (n + 1) t
      ((n, .error e) :: rest, last)

/-- `Program.fromAssemblyArray`: both passes over the predefined table; the answer for each line that is not skipped,
with the line's number, and the final table (rules R124 and R129). A parse error ends nothing: it is that line's answer
(rule R129), and what program such a batch stands for is log 21. -/
def fromAssemblyArray (lines : List Text) : List (Nat × Except ParseError Instr) × SymbolTable :=
  decodeLines lines 0 (bindLabels lines 0 SymbolTable.predefined)

/-- The program of the lines that decode; instruction i is loaded at ROM address i (rule R117). What program a batch
with a parse error gives the spec does not say (rule R129): here the line with the error is left out and the ones after
it move up, while `bindLabels` has counted it if it has the form of an instruction, and then later labels stand past
their instructions (DESIGN CHOICE, log 21). Without a parse error no counted line is left out. -/
def programOf (answers : List (Nat × Except ParseError Instr)) : List Instr :=
  answers.filterMap (fun p => p.2.toOption)

/-- `Program.toAssemblyArray` (rule R129): none where an instruction has no text. -/
def toAssemblyArray (program : List Instr) (t : SymbolTable) : List (Option Text) :=
  program.map (fun i => toAssembly i t)

/-- `Program.fromBinaryArray` (rule R129): a failure is local to its word (rule R346). -/
def fromBinaryArray (words : List Word) : List (Except DecodeError Instr) := words.map decodeBinary

/-- `Program.toBinaryArray` (rule R129). -/
def toBinaryArray (program : List Instr) : List Word := program.map encode

end Sys2Proof.Machine
end

