-- ==== Sys2Proof/Machine/Cpu.lean ====
section
/-! DEFINITION. The tick written from the raw instruction word, as 45_cpu_cycle.md gives it unit by unit: the decoder's
signals (rule R303), `CPU.tick` (rule R308) with its outputs (rule R309), and `Computer.tick` (rule R310). `step` is
the same tick through `Instr`; that the two agree is a statement. -/

namespace Sys2Proof.Machine

/-- The signals the `instruction_decoder` derives from the word (rule R303). -/
structure Signals where
  isC : Bool
  value : Addr
  y : YSource
  ctl : AluCtl
  dest : Dest
  jump : Jump
  loadA : Bool
  loadD : Bool
  writeM : Bool
deriving DecidableEq, Repr

/-- `instruction_decoder`: bits 14 and 13 are not read as control (rule R303). -/
def decodeSignals (w : Word) : Signals :=
  let isC := w.getLsbD 15
  let dest := destOf w
  { isC := isC
    value := low15 w
    y := ySourceOf w
    ctl := if isC then ctlOf w else aInstrCtl
    dest := dest
    jump := jumpOf w
    loadA := !isC || dest.toA
    loadD := isC && dest.toD
    writeM := isC && dest.toM }

/-- The CPU's outputs in one tick (rules R308 and R309). -/
structure CpuOut where
  outM : Word
  writeM : Bool
  addressM : Addr
  pc : Addr
deriving DecidableEq, Repr

/-- `CPU.tick(inM, instruction, reset)`: the outputs, and the state with A, D and the program counter committed
(rule R308). -/
def cpuTick (inM instruction : Word) (reset : Bool) (s : State) : CpuOut × State :=
  let sig := decodeSignals instruction
  let y := match sig.y with
    | .regA => s.a
    | .mem => inM
  let r := alu s.xOperand y sig.ctl
  let aNext := if sig.isC then r.out else immediate sig.value
  let jump := sig.isC && jumpTaken sig.jump r.zr r.ng
  let regA := regTick s.a aNext sig.loadA
  let regD := regTick s.d r.out sig.loadD
  let counter := pcTick s.pc s.a jump true reset
  ({ outM := r.out, writeM := sig.writeM, addressM := low15 regA.1, pc := low15 counter.1 },
    { s with a := regA.2, d := regD.2, pc := counter.2 })

/-- `Computer.tick(reset)`, the five steps of rule R310. -/
def computerTick (reset : Bool) (s : State) : State :=
  let instruction := s.fetch
  let inM := s.readMem s.addressM
  let (r, s') := cpuTick inM instruction reset s
  (s'.memTick r.outM r.addressM r.writeM).2

end Sys2Proof.Machine
end

