-- ==== Sys2Proof/Machine/Computer.lean ====
section
/-! DEFINITION. The Computer as the host drives it: the operations of rule R318, each between two ticks, and runs
made of them. -/

namespace Sys2Proof.Machine

/-- `Computer.loadProgram(words)` (rule R70): word i goes to ROM[i] and the rest of the ROM is the fill word. A list
longer than the ROM, a second load and a load after a tick are refused (decision D5, U12; log 10). The words are not
checked (decision D10). -/
def loadProgram (words : List Word) (s : State) : StepOutcome :=
  if !s.loadOpen then .refused .loadClosed
  else if Config.romWords < words.length then .refused .programTooLong
  else .next { s with rom := Memory.writeList [] 0 words, loadOpen := false }

/-- `poke(address, word)`: a data preset, with the effect of a store (rules R318 and R375). -/
def State.poke (s : State) (addr : Addr) (w : Word) : State := s.writeMem addr w

/-- The host sets the Keyboard word (rules R67 and R318; decision D7, log 14). -/
def State.setKeyboard (s : State) (w : Word) : State := { s with kbd := w }

/-- `Computer.reset`: A, D, program counter, RAM, Screen and Keyboard to zero, the ROM unchanged; no instruction runs
(rule R371). The reset input of the next tick and the load flag are the host's own and stay (log 20). -/
def State.coldReset (s : State) : State :=
  { s with
    a := 0x0000#16
    d := 0x0000#16
    pc := 0x0000#16
    ram := []
    screen := []
    kbd := 0x0000#16 }

/-- What the host can do after it has created a Computer (rule R318, (b) to (f)); `peek` changes nothing. -/
inductive HostEvent where
  /-- (b) `loadProgram(words)`. -/
  | loadProgram (words : List Word)
  /-- (c) `poke(address, word)`. -/
  | poke (addr : Addr) (word : Word)
  /-- (d) `KBD <- word`. -/
  | setKeyboard (word : Word)
  /-- (e) `tick(reset)`. -/
  | tick (reset : Bool)
  /-- (f) `reset()`. -/
  | coldReset
deriving DecidableEq, Repr

/-- One host operation (rule R318). -/
def hostStep (e : HostEvent) (s : State) : StepOutcome :=
  match e with
  | .loadProgram words => Sys2Proof.Machine.loadProgram words s
  | .poke addr word => .next (s.poke addr word)
  | .setKeyboard word => .next (s.setKeyboard word)
  | .tick reset => step { s with resetIn := reset }
  | .coldReset => .next s.coldReset

/-- A run of host operations, in order, stopping at the first refusal. -/
def hostRun : List HostEvent → State → StepOutcome
  | [], s => .next s
  | e :: es, s =>
    match hostStep e s with
    | .next t => hostRun es t
    | .fault f => .fault f
    | .refused r => .refused r

end Sys2Proof.Machine
end

