-- ==== Sys2Proof/Safety.lean ====
section
/-! DEFINITION. What a good state and a safe run are, in the terms the statements use. -/

namespace Sys2Proof.Machine

/-- The invariant of the state: each store is in its canonical form and holds no index outside its size (rules R20
and R61). -/
structure State.Inv (s : State) : Prop where
  ram : s.ram.wf Config.ramWords = true
  screen : s.screen.wf Config.screenWords = true
  rom : s.rom.wf Config.romWords = true

/-- A run of `k` ticks from `s` that never stops (rule R312). -/
def RunsFor (k : Nat) (s : State) : Prop := ∃ t, Host.Core.run Sys2Proof.core k s = .next t

/-- Two states that agree on everything but bit 15 of the program counter cell, the one bit rule R30 says nothing can
observe. -/
structure SameButPcTop (s t : State) : Prop where
  pc : low15 s.pc = low15 t.pc
  rest : { s with pc := t.pc } = t

end Sys2Proof.Machine
end

