-- ==== Sys2Proof/Certificates/Slice0/Obligations.lean ====
section
/-! DEFINITION. The statements for the provers. Each says which rules of the spec it formalises; where a clause rests
on a decision or an inference the spec marks as its own (D<n>, [derived], [from general knowledge]), the docstring
names it. -/

open Sys2Proof Sys2Proof.Machine

/-! ## Terms the statements share -/

/-- The memory operand M of a state: the data word at the low 15 bits of A (rules R24 and R212). -/
def Sys2Proof.Statement.memOf (s : State) : Word := s.readMem (low15 s.a)

/-- The ALU's y operand for an `a` bit (rules R105 and R304). -/
def Sys2Proof.Statement.yOf (s : State) (aBit : Bool) : Word :=
  if aBit then Sys2Proof.Statement.memOf s else s.a

/-- The state after a C-instruction whose ALU output is `out`, every value on the right from before the tick: the block
of rule R210 with the output's sign read as a number. The jump target A is the spec's decision D1 (log 6). -/
def Sys2Proof.Statement.afterC (s : State) (out : Word) (dest : Dest) (jump : Jump) : State where
  a := if dest.toA then out else s.a
  d := if dest.toD then out else s.d
  pc :=
    if s.resetIn then 0x0000#16
    else if (jump.ifNeg = true ∧ out.toInt < 0) ∨ (jump.ifZero = true ∧ out = 0x0000#16) ∨
        (jump.ifPos = true ∧ 0 < out.toInt) then s.a
    else s.pc + 1
  ram := if dest.toM then (s.writeMem (low15 s.a) out).ram else s.ram
  screen := if dest.toM then (s.writeMem (low15 s.a) out).screen else s.screen
  kbd := s.kbd
  rom := s.rom
  resetIn := s.resetIn
  loadOpen := s.loadOpen

/-- `exec` answers exactly the state after a C-instruction with output `out`. -/
def Sys2Proof.Statement.Gives (i : Instr) (s : State) (out : Word) (dest : Dest) (jump : Jump) : Prop :=
  exec i s = .next (Sys2Proof.Statement.afterC s out dest jump)

/-- The ALU output of a C word in a state, by the fields of the word (rules R304 and R161 to R164). -/
def Sys2Proof.Statement.wordOut (w : Word) (s : State) : Word :=
  (alu s.d (Sys2Proof.Statement.yOf s (w.getLsbD 12)) (AluCtl.ofCode (w.extractLsb' 6 6))).out

/-- The number of lines of instruction form before a line (rule R121). -/
def Sys2Proof.Statement.codeLines (lines : List Text) : Nat :=
  (lines.filter (fun line => match classify line with
    | .code _ => true
    | .blank => false
    | .label _ => false
    | .badLabel => false)).length

open Sys2Proof.Statement

/-! ## Encoding and decoding (30_encoding.md) -/

/-- Decoding an instruction's word gives the instruction back, every operand at every value (rules R109 and R111). -/
def Obligations.DecodeOfEncodeIsIdentity : Prop :=
  ∀ i : Instr, decodeWord (encode i) = i

/-- Encoding what a word decodes to gives the word back, for all 65536 words: no bit is dropped. -/
def Obligations.EncodeOfDecodeIsIdentity : Prop :=
  ∀ w : Word, encode (decodeWord w) = w

/-- Rule R109, with its two examples as field values. -/
def Obligations.ToBinaryBuildsTheWord : Prop :=
  (∀ v : Addr, (encode (.atValue v)).toNat = v.toNat) ∧
  (∀ (c : BitVec 7) (d j : BitVec 3),
    encode (cInstr (YSource.ofComp c) (AluCtl.ofComp c) (Dest.ofCode d) (Jump.ofCode j)) =
      0xE000#16 ||| (c.setWidth 16 <<< 6) ||| (d.setWidth 16 <<< 3) ||| j.setWidth 16) ∧
  encode (cInstr (YSource.ofComp 0b1010011#7) (AluCtl.ofComp 0b1010011#7) (Dest.ofCode 0b010#3)
    (Jump.ofCode 0b000#3)) = 0xF4D0#16 ∧
  encode (cInstr (YSource.ofComp 0b0101010#7) (AluCtl.ofComp 0b0101010#7) (Dest.ofCode 0b000#3)
    (Jump.ofCode 0b111#3)) = 0xEA87#16

/-- Rule R110: the codec's decoder on the three classes of words, and `toBinary` undoing it wherever it gives an
instruction. -/
def Obligations.DecodeBinaryByClass : Prop :=
  ∀ w : Word,
    (w.getLsbD 15 = false → decodeBinary w = .ok (.atValue (w.extractLsb' 0 15))) ∧
    (w.getLsbD 15 = true → w.extractLsb' 13 2 = 0b11#2 →
      decodeBinary w = .ok (cInstr (YSource.ofComp (w.extractLsb' 6 7)) (AluCtl.ofComp (w.extractLsb' 6 7))
        (Dest.ofCode (w.extractLsb' 3 3)) (Jump.ofCode (w.extractLsb' 0 3)))) ∧
    (w.getLsbD 15 = true → w.extractLsb' 13 2 ≠ 0b11#2 → decodeBinary w = .error .malformedC) ∧
    (∀ i, decodeBinary w = .ok i → encode i = w)

/-- A few words written out bit by bit decode to what they stand for (sections 3 and 10 of 30_encoding.md). Where each
field stands follows from the formats; that the four named words are `passA`, `dPlusA`, `passD` and `zero` is rule R106's
table, which the spec marks as general knowledge (log 9). -/
def Obligations.SampleWordsDecode : Prop :=
  decodeWord 0b0000000000000010#16 = .atValue 2#15 ∧
  decodeWord 0b1110110000010000#16 = .passA (Dest.ofCode 0b010#3) (Jump.ofCode 0b000#3) ∧
  decodeWord 0b1110000010010000#16 = .dPlusA (Dest.ofCode 0b010#3) (Jump.ofCode 0b000#3) ∧
  decodeWord 0b1110001100001000#16 = .passD (Dest.ofCode 0b001#3) (Jump.ofCode 0b000#3) ∧
  decodeWord 0b1110101010000111#16 = .zero (Dest.ofCode 0b000#3) (Jump.ofCode 0b111#3) ∧
  decodeWord 0b1110000001010001#16 = .comp0000001 (Dest.ofCode 0b010#3) (Jump.ofCode 0b001#3) ∧
  decodeWord 0b1010001100001100#16 =
    .malformed01 .regA (AluCtl.ofCode 0b001100#6) (Dest.ofCode 0b001#3) (Jump.ofCode 0b100#3)

/-- Rule R111: a word with bit 15 set executes exactly as the word with bits 14 and 13 set as well. -/
def Obligations.MalformedWordActsAsWellFormed : Prop :=
  ∀ (w : Word) (s : State), w.getLsbD 15 = true →
    exec (decodeWord w) s = exec (decodeWord (w ||| 0x6000#16)) s

/-! ## The ALU (40_alu.md) -/

/-- Rules R161 to R164: the four stages. -/
def Obligations.AluFourStages : Prop :=
  ∀ (x y : Word) (zx nx zy ny f no : Bool),
    let x1 := if zx then 0x0000#16 else x
    let x2 := if nx then x1 ^^^ 0xFFFF#16 else x1
    let y1 := if zy then 0x0000#16 else y
    let y2 := if ny then y1 ^^^ 0xFFFF#16 else y1
    let r := if f then BitVec.ofNat 16 ((x2.toNat + y2.toNat) % 65536) else x2 &&& y2
    (alu x y ⟨zx, nx, zy, ny, f, no⟩).out = if no then r ^^^ 0xFFFF#16 else r

/-- Rules R165 and R166: each flag by the output alone, `ng` the sign, never both, and the same output has the same
flags whatever the inputs. -/
def Obligations.AluFlagsOfOutput : Prop :=
  ∀ (x y : Word) (ctl : AluCtl),
    let r := alu x y ctl
    (r.zr = true ↔ r.out = 0x0000#16) ∧
    r.ng = r.out.getLsbD 15 ∧
    (r.ng = true ↔ r.out.toInt < 0) ∧
    ((r.zr = false ∧ r.ng = false) ↔ 0 < r.out.toInt) ∧
    ¬ (r.zr = true ∧ r.ng = true) ∧
    (∀ (x' y' : Word) (ctl' : AluCtl), (alu x' y' ctl').out = r.out → alu x' y' ctl' = r)

/-- All 64 control codes with their closed forms: the table of section 2 of 40_alu.md, which the spec marks as derived.
-/
def Obligations.AluAllControlCodes : Prop :=
  ∀ x y : Word,
    (∀ p ∈ ([(0b000000#6, x &&& y), (0b000001#6, ~~~(x &&& y)), (0b000010#6, x + y), (0b000011#6, -x - y - 1),
        (0b000100#6, x &&& ~~~y), (0b000101#6, ~~~x ||| y), (0b000110#6, x - y - 1), (0b000111#6, y - x),
        (0b001000#6, 0), (0b001001#6, -1), (0b001010#6, x), (0b001011#6, ~~~x),
        (0b001100#6, x), (0b001101#6, ~~~x), (0b001110#6, x - 1), (0b001111#6, -x)] : List (BitVec 6 × Word)),
      (alu x y (AluCtl.ofCode p.1)).out = p.2) ∧
    (∀ p ∈ ([(0b010000#6, ~~~x &&& y), (0b010001#6, x ||| ~~~y), (0b010010#6, y - x - 1), (0b010011#6, x - y),
        (0b010100#6, ~~~(x ||| y)), (0b010101#6, x ||| y), (0b010110#6, -x - y - 2), (0b010111#6, x + y + 1),
        (0b011000#6, 0), (0b011001#6, -1), (0b011010#6, ~~~x), (0b011011#6, x),
        (0b011100#6, ~~~x), (0b011101#6, x), (0b011110#6, -x - 2), (0b011111#6, x + 1)] : List (BitVec 6 × Word)),
      (alu x y (AluCtl.ofCode p.1)).out = p.2) ∧
    (∀ p ∈ ([(0b100000#6, 0), (0b100001#6, -1), (0b100010#6, y), (0b100011#6, ~~~y),
        (0b100100#6, 0), (0b100101#6, -1), (0b100110#6, ~~~y), (0b100111#6, y),
        (0b101000#6, 0), (0b101001#6, -1), (0b101010#6, 0), (0b101011#6, -1),
        (0b101100#6, 0), (0b101101#6, -1), (0b101110#6, -1), (0b101111#6, 0)] : List (BitVec 6 × Word)),
      (alu x y (AluCtl.ofCode p.1)).out = p.2) ∧
    (∀ p ∈ ([(0b110000#6, y), (0b110001#6, ~~~y), (0b110010#6, y - 1), (0b110011#6, -y),
        (0b110100#6, ~~~y), (0b110101#6, y), (0b110110#6, -y - 2), (0b110111#6, y + 1),
        (0b111000#6, 0), (0b111001#6, -1), (0b111010#6, -1), (0b111011#6, 0),
        (0b111100#6, -1), (0b111101#6, 0), (0b111110#6, -2), (0b111111#6, 1)] : List (BitVec 6 × Word)),
      (alu x y (AluCtl.ofCode p.1)).out = p.2)

/-! ## Data memory, ROM, cells (10_state.md, 20_memory.md) -/

/-- Rule R63: the word read in each region. -/
def Obligations.ReadByRegion : Prop :=
  ∀ (s : State) (addr : Addr),
    (addr.toNat < 16384 → s.readMem addr = s.ram.read addr.toNat) ∧
    (16384 ≤ addr.toNat → addr.toNat < 24576 → s.readMem addr = s.screen.read (addr.toNat - 16384)) ∧
    (addr.toNat = 24576 → s.readMem addr = s.kbd) ∧
    (24576 < addr.toNat → s.readMem addr = 0x0000#16)

/-- Rule R64: in RAM and Screen the word is stored and every other address keeps its word; at the Keyboard and in the
void nothing changes. -/
def Obligations.WriteByRegion : Prop :=
  ∀ (s : State) (addr : Addr) (v : Word), s.Inv →
    (addr.toNat < 24576 → ∀ b, (s.writeMem addr v).readMem b = if b = addr then v else s.readMem b) ∧
    (24576 ≤ addr.toNat → s.writeMem addr v = s)

/-- Rule R66: a write touches at most the store of its own region. -/
def Obligations.WriteTouchesOneStore : Prop :=
  ∀ (s : State) (addr : Addr) (v : Word),
    (addr.toNat < 16384 → (s.writeMem addr v).screen = s.screen ∧ (s.writeMem addr v).kbd = s.kbd) ∧
    (16384 ≤ addr.toNat → addr.toNat < 24576 →
      (s.writeMem addr v).ram = s.ram ∧ (s.writeMem addr v).kbd = s.kbd) ∧
    (24576 ≤ addr.toNat → s.writeMem addr v = s)

/-- Rule R388: a store to the Keyboard or the void, by any C word, changes no data word; and bit 15 of A changes neither
the data word addressed nor the ROM word a jump goes to. -/
def Obligations.KeyboardAndVoidDoNotHoldStores : Prop :=
  (∀ (w : Word) (s : State), w.getLsbD 15 = true → w.getLsbD 3 = true → 24576 ≤ (low15 s.a).toNat →
    ∃ t, exec (decodeWord w) s = .next t ∧ (∀ b, t.readMem b = s.readMem b) ∧
      ((low15 s.a).toNat = 24576 → t.readMem (low15 s.a) = s.kbd) ∧
      (24576 < (low15 s.a).toNat → t.readMem (low15 s.a) = 0x0000#16)) ∧
  (∀ (s : State), memOf { s with a := s.a ^^^ 0x8000#16 } = memOf s ∧
    ({ s with a := s.a ^^^ 0x8000#16 } : State).addressM = s.addressM ∧
    ({ s with pc := s.a ^^^ 0x8000#16 } : State).fetch = ({ s with pc := s.a } : State).fetch)

/-- Rule R25: the cell contract. -/
def Obligations.CellReturnsOldThenLoads : Prop :=
  ∀ cell input : Word, regTick cell input true = (cell, input) ∧ regTick cell input false = (cell, cell)

/-- Rule R28: reset over load over increment over hold, the value returned being the one before the tick. -/
def Obligations.ProgramCounterPriority : Prop :=
  ∀ (pc input : Word) (load inc : Bool),
    pcTick pc input load inc true = (pc, 0x0000#16) ∧
    pcTick pc input true inc false = (pc, input) ∧
    pcTick pc input false true false = (pc, BitVec.ofNat 16 ((pc.toNat + 1) % 65536)) ∧
    pcTick pc input false false false = (pc, pc)

/-! ## Reset and entry (10_state.md section 8, 70_reset_and_hazards.md) -/

/-- The state at creation (section 8 of 10_state.md): registers and program counter zero by the source; memory, Keyboard
and ROM words zero by the spec's decisions D9 and D4 (log 4 and log 5). -/
def Obligations.CreationStateIsZero : Prop :=
  State.reset.a = 0x0000#16 ∧ State.reset.d = 0x0000#16 ∧ State.reset.pc = 0x0000#16 ∧
  (∀ i, State.reset.ram.read i = 0x0000#16) ∧ (∀ i, State.reset.screen.read i = 0x0000#16) ∧
  State.reset.kbd = 0x0000#16 ∧ (∀ addr, State.reset.romRead addr = 0x0000#16) ∧
  (∀ addr, State.reset.readMem addr = 0x0000#16)

/-- Rule R373: after creation, whatever the ROM holds, and after the load that follows it, after `Computer.reset` and
after a tick with `reset = 1`, the next tick fetches ROM[0]. -/
def Obligations.EntryPointIsRomZero : Prop :=
  (∀ rom : Memory, ({ State.reset with rom := rom } : State).fetch = rom.read 0) ∧
  (∀ (words : List Word) (s : State), hostStep (.loadProgram words) State.reset = .next s →
    s.fetch = s.romRead 0#15) ∧
  (∀ s : State, s.coldReset.fetch = s.romRead 0#15) ∧
  (∀ s t : State, s.resetIn = true → step s = .next t → t.fetch = t.romRead 0#15)

/-- Rules R311 and R372: the reset input of a tick changes the next program counter to 0 and nothing else, and the tick
after it fetches ROM[0]. -/
def Obligations.ResetInputClearsOnlyThePc : Prop :=
  ∀ s : State, ∃ t, step { s with resetIn := false } = .next t ∧
    step { s with resetIn := true } = .next { t with pc := 0x0000#16, resetIn := true } ∧
    ({ t with pc := 0x0000#16, resetIn := true } : State).fetch = s.romRead 0#15

/-- Rule R371: `Computer.reset` zeroes A, D, pc, RAM, Screen and Keyboard and keeps the ROM, and after any run of host
operations it gives the state after creation and the same load, but for the next tick's reset input, which is the
host's own (log 20). -/
def Obligations.ColdResetRestoresTheLoadedState : Prop :=
  (∀ s : State, s.coldReset.a = 0x0000#16 ∧ s.coldReset.d = 0x0000#16 ∧ s.coldReset.pc = 0x0000#16 ∧
    (∀ i, s.coldReset.ram.read i = 0x0000#16) ∧ (∀ i, s.coldReset.screen.read i = 0x0000#16) ∧
    s.coldReset.kbd = 0x0000#16 ∧ s.coldReset.rom = s.rom) ∧
  (∀ (words : List Word) (s₀ t : State) (es : List HostEvent),
    hostStep (.loadProgram words) State.reset = .next s₀ → hostRun es s₀ = .next t →
      { t.coldReset with resetIn := s₀.resetIn } = s₀)

/-! ## The A-instruction (41_a_instruction.md) -/

/-- Rule R200: A takes the zero-extended constant, whose bit 15 is 0; pc advances, or is 0 when the tick's reset input
is 1; nothing else changes; the word equals the value; the address the tick puts out is the old A's. -/
def Obligations.AtValueLoadsA : Prop :=
  ∀ (v : Addr) (s : State),
    exec (.atValue v) s = .next { s with
      a := BitVec.ofNat 16 v.toNat
      pc := if s.resetIn then 0x0000#16 else s.pc + 1 } ∧
    (BitVec.ofNat 16 v.toNat).getLsbD 15 = false ∧
    (encode (.atValue v)).toNat = v.toNat ∧
    (∀ (inM : Word) (reset : Bool),
      (cpuTick inM (encode (.atValue v)) reset s).1.addressM = s.a.extractLsb' 0 15)

/-- Rule R309: the CPU's four outputs in a tick, from the state before it. -/
def Obligations.CpuOutputs : Prop :=
  ∀ (inM w : Word) (reset : Bool) (s : State),
    let out := (cpuTick inM w reset s).1
    (w.getLsbD 15 = true → out.outM =
      (alu s.d (if w.getLsbD 12 then inM else s.a) (AluCtl.ofCode (w.extractLsb' 6 6))).out) ∧
    (w.getLsbD 15 = false → out.outM = s.d) ∧
    out.writeM = (w.getLsbD 15 && w.getLsbD 3) ∧
    out.addressM = s.a.extractLsb' 0 15 ∧
    out.pc = s.pc.extractLsb' 0 15

/-! ## The named computations (42_c_instruction_comp.md section 2). The control code of each mnemonic is the spec's
general knowledge (log 9) and the jump target in `afterC` its decision D1 (log 6), so each is derived. -/

/-- `0`, `1`, `-1`: the three constants. -/
def Obligations.ConstantsCompute : Prop :=
  ∀ (dest : Dest) (jump : Jump) (s : State),
    Gives (.zero dest jump) s 0x0000#16 dest jump ∧
    Gives (.one dest jump) s 0x0001#16 dest jump ∧
    Gives (.negOne dest jump) s 0xFFFF#16 dest jump

/-- `D`, `A`, `M`: pass an operand through. -/
def Obligations.PassThroughComputes : Prop :=
  ∀ (dest : Dest) (jump : Jump) (s : State),
    Gives (.passD dest jump) s s.d dest jump ∧
    Gives (.passA dest jump) s s.a dest jump ∧
    Gives (.passM dest jump) s (memOf s) dest jump

/-- `!D`, `!A`, `!M`: complement, 65535 − v. -/
def Obligations.ComplementComputes : Prop :=
  ∀ (dest : Dest) (jump : Jump) (s : State),
    Gives (.notD dest jump) s (0xFFFF#16 - s.d) dest jump ∧
    Gives (.notA dest jump) s (0xFFFF#16 - s.a) dest jump ∧
    Gives (.notM dest jump) s (0xFFFF#16 - memOf s) dest jump

/-- `-D`, `-A`, `-M`: two's-complement negation. -/
def Obligations.NegationComputes : Prop :=
  ∀ (dest : Dest) (jump : Jump) (s : State),
    Gives (.negD dest jump) s (0x0000#16 - s.d) dest jump ∧
    Gives (.negA dest jump) s (0x0000#16 - s.a) dest jump ∧
    Gives (.negM dest jump) s (0x0000#16 - memOf s) dest jump

/-- `D+1`, `A+1`, `M+1`, `D-1`, `A-1`, `M-1`. -/
def Obligations.IncrementAndDecrementCompute : Prop :=
  ∀ (dest : Dest) (jump : Jump) (s : State),
    Gives (.incD dest jump) s (s.d + 1) dest jump ∧
    Gives (.incA dest jump) s (s.a + 1) dest jump ∧
    Gives (.incM dest jump) s (memOf s + 1) dest jump ∧
    Gives (.decD dest jump) s (s.d - 1) dest jump ∧
    Gives (.decA dest jump) s (s.a - 1) dest jump ∧
    Gives (.decM dest jump) s (memOf s - 1) dest jump

/-- `D+A`, `D+M`, `D-A`, `D-M`, `A-D`, `M-D`. -/
def Obligations.SumAndDifferenceCompute : Prop :=
  ∀ (dest : Dest) (jump : Jump) (s : State),
    Gives (.dPlusA dest jump) s (s.d + s.a) dest jump ∧
    Gives (.dPlusM dest jump) s (s.d + memOf s) dest jump ∧
    Gives (.dMinusA dest jump) s (s.d - s.a) dest jump ∧
    Gives (.dMinusM dest jump) s (s.d - memOf s) dest jump ∧
    Gives (.aMinusD dest jump) s (s.a - s.d) dest jump ∧
    Gives (.mMinusD dest jump) s (memOf s - s.d) dest jump

/-- `D&A`, `D&M`, `D|A`, `D|M`. -/
def Obligations.AndOrCompute : Prop :=
  ∀ (dest : Dest) (jump : Jump) (s : State),
    Gives (.dAndA dest jump) s (s.d &&& s.a) dest jump ∧
    Gives (.dAndM dest jump) s (s.d &&& memOf s) dest jump ∧
    Gives (.dOrA dest jump) s (s.d ||| s.a) dest jump ∧
    Gives (.dOrM dest jump) s (s.d ||| memOf s) dest jump

/-! ## The computations without a mnemonic (42_c_instruction_comp.md section 3, whose table the spec marks as derived)
-/

/-- The unnamed codes that give a constant, 0, −1, −2 or 1. -/
def Obligations.UnnamedConstantsCompute : Prop :=
  ∀ (dest : Dest) (jump : Jump) (s : State),
    (∀ i ∈ ([.comp0001000 dest jump, .comp0011000 dest jump, .comp0100000 dest jump,
        .comp0100100 dest jump, .comp0101000 dest jump, .comp0101100 dest jump,
        .comp0101111 dest jump, .comp0111000 dest jump, .comp0111011 dest jump,
        .comp0111101 dest jump, .comp1001000 dest jump, .comp1011000 dest jump,
        .comp1100000 dest jump, .comp1100100 dest jump, .comp1101000 dest jump,
        .comp1101010 dest jump, .comp1101100 dest jump, .comp1101111 dest jump,
        .comp1111000 dest jump, .comp1111011 dest jump, .comp1111101 dest jump] : List Instr),
      Gives i s 0x0000#16 dest jump) ∧
    (∀ i ∈ ([.comp0001001 dest jump, .comp0011001 dest jump, .comp0100001 dest jump,
        .comp0100101 dest jump, .comp0101001 dest jump, .comp0101011 dest jump,
        .comp0101101 dest jump, .comp0101110 dest jump, .comp0111001 dest jump,
        .comp0111100 dest jump, .comp1001001 dest jump, .comp1011001 dest jump,
        .comp1100001 dest jump, .comp1100101 dest jump, .comp1101001 dest jump,
        .comp1101011 dest jump, .comp1101101 dest jump, .comp1101110 dest jump,
        .comp1111001 dest jump, .comp1111010 dest jump, .comp1111100 dest jump] : List Instr),
      Gives i s 0xFFFF#16 dest jump) ∧
    (∀ i ∈ ([.comp0111110 dest jump, .comp1111110 dest jump] : List Instr),
      Gives i s 0xFFFE#16 dest jump) ∧
    Gives (.comp1111111 dest jump) s 0x0001#16 dest jump

/-- The unnamed codes that give a function of D alone. -/
def Obligations.UnnamedCodesOfD : Prop :=
  ∀ (dest : Dest) (jump : Jump) (s : State),
    (∀ i ∈ ([.comp0001010 dest jump, .comp0011011 dest jump, .comp0011101 dest jump,
        .comp1001010 dest jump, .comp1001100 dest jump, .comp1011011 dest jump,
        .comp1011101 dest jump] : List Instr),
      Gives i s s.d dest jump) ∧
    (∀ i ∈ ([.comp0001011 dest jump, .comp0011010 dest jump, .comp0011100 dest jump,
        .comp1001011 dest jump, .comp1001101 dest jump, .comp1011010 dest jump,
        .comp1011100 dest jump] : List Instr),
      Gives i s (~~~s.d) dest jump) ∧
    Gives (.comp1001110 dest jump) s (s.d - 1) dest jump ∧
    Gives (.comp1001111 dest jump) s (-s.d) dest jump ∧
    Gives (.comp1011111 dest jump) s (s.d + 1) dest jump ∧
    (∀ i ∈ ([.comp0011110 dest jump, .comp1011110 dest jump] : List Instr),
      Gives i s (-s.d - 2) dest jump)

/-- The unnamed codes that give a function of A or of M alone. -/
def Obligations.UnnamedCodesOfAOrM : Prop :=
  ∀ (dest : Dest) (jump : Jump) (s : State),
    (∀ i ∈ ([.comp0100010 dest jump, .comp0100111 dest jump, .comp0110101 dest jump] : List Instr),
      Gives i s s.a dest jump) ∧
    (∀ i ∈ ([.comp0100011 dest jump, .comp0100110 dest jump, .comp0110100 dest jump] : List Instr),
      Gives i s (~~~s.a) dest jump) ∧
    Gives (.comp0110110 dest jump) s (-s.a - 2) dest jump ∧
    (∀ i ∈ ([.comp1100010 dest jump, .comp1100111 dest jump, .comp1110101 dest jump] : List Instr),
      Gives i s (memOf s) dest jump) ∧
    (∀ i ∈ ([.comp1100011 dest jump, .comp1100110 dest jump, .comp1110100 dest jump] : List Instr),
      Gives i s (~~~memOf s) dest jump) ∧
    Gives (.comp1110110 dest jump) s (-memOf s - 2) dest jump

/-- The unnamed logic codes of D and A, and of D and M. -/
def Obligations.UnnamedLogicCodes : Prop :=
  ∀ (dest : Dest) (jump : Jump) (s : State),
    Gives (.comp0000001 dest jump) s (~~~(s.d &&& s.a)) dest jump ∧
    Gives (.comp0010100 dest jump) s (~~~(s.d ||| s.a)) dest jump ∧
    Gives (.comp0000100 dest jump) s (s.d &&& ~~~s.a) dest jump ∧
    Gives (.comp0010000 dest jump) s (~~~s.d &&& s.a) dest jump ∧
    Gives (.comp0010001 dest jump) s (s.d ||| ~~~s.a) dest jump ∧
    Gives (.comp0000101 dest jump) s (~~~s.d ||| s.a) dest jump ∧
    Gives (.comp1000001 dest jump) s (~~~(s.d &&& memOf s)) dest jump ∧
    Gives (.comp1010100 dest jump) s (~~~(s.d ||| memOf s)) dest jump ∧
    Gives (.comp1000100 dest jump) s (s.d &&& ~~~memOf s) dest jump ∧
    Gives (.comp1010000 dest jump) s (~~~s.d &&& memOf s) dest jump ∧
    Gives (.comp1010001 dest jump) s (s.d ||| ~~~memOf s) dest jump ∧
    Gives (.comp1000101 dest jump) s (~~~s.d ||| memOf s) dest jump

/-- The unnamed arithmetic codes of D and A, and of D and M. -/
def Obligations.UnnamedArithmeticCodes : Prop :=
  ∀ (dest : Dest) (jump : Jump) (s : State),
    Gives (.comp0010111 dest jump) s (s.d + s.a + 1) dest jump ∧
    Gives (.comp0000110 dest jump) s (s.d - s.a - 1) dest jump ∧
    Gives (.comp0010010 dest jump) s (s.a - s.d - 1) dest jump ∧
    Gives (.comp0000011 dest jump) s (-s.d - s.a - 1) dest jump ∧
    Gives (.comp0010110 dest jump) s (-s.d - s.a - 2) dest jump ∧
    Gives (.comp1010111 dest jump) s (s.d + memOf s + 1) dest jump ∧
    Gives (.comp1000110 dest jump) s (s.d - memOf s - 1) dest jump ∧
    Gives (.comp1010010 dest jump) s (memOf s - s.d - 1) dest jump ∧
    Gives (.comp1000011 dest jump) s (-s.d - memOf s - 1) dest jump ∧
    Gives (.comp1010110 dest jump) s (-s.d - memOf s - 2) dest jump

/-! ## Malformed C words -/

/-- A malformed C word of each class computes what its fields say and completes (section 4 of 30_encoding.md). Derived:
the jump target in `afterC` is decision D1 (log 6). -/
def Obligations.MalformedCompute : Prop :=
  ∀ (y : YSource) (ctl : AluCtl) (dest : Dest) (jump : Jump) (s : State),
    let out := (alu s.d (match y with | .regA => s.a | .mem => memOf s) ctl).out
    Gives (.malformed00 y ctl dest jump) s out dest jump ∧
    Gives (.malformed01 y ctl dest jump) s out dest jump ∧
    Gives (.malformed10 y ctl dest jump) s out dest jump

/-! ## Destinations and jumps (43_c_instruction_dest.md, 44_c_instruction_jump.md) -/

/-- Rule R260: each destination by its own bit, all with the same output, the store at the old A; the bits change
neither the output nor the jump; an A word stores nothing in D or memory. -/
def Obligations.DestinationsAreIndependent : Prop :=
  (∀ (w : Word) (s : State), w.getLsbD 15 = true →
    ∃ t, exec (decodeWord w) s = .next t ∧
      t.a = (if w.getLsbD 5 then wordOut w s else s.a) ∧
      t.d = (if w.getLsbD 4 then wordOut w s else s.d) ∧
      (∀ b, t.readMem b =
        if w.getLsbD 3 then (s.writeMem (low15 s.a) (wordOut w s)).readMem b else s.readMem b)) ∧
  (∀ (w w' : Word) (s : State), w.getLsbD 15 = true → w &&& 0xFFC7#16 = w' &&& 0xFFC7#16 →
    wordOut w' s = wordOut w s ∧
    ∃ t t', exec (decodeWord w) s = .next t ∧ exec (decodeWord w') s = .next t' ∧ t'.pc = t.pc) ∧
  (∀ (w : Word) (s : State), w.getLsbD 15 = false →
    ∃ t, exec (decodeWord w) s = .next t ∧ t.d = s.d ∧ ∀ b, t.readMem b = s.readMem b)

/-- Rule R270: with A and M both destinations the store goes to the old A, where the new A's value then stands, and no
other address changes; the operand M is read at the old A. -/
def Obligations.StoreGoesToTheOldA : Prop :=
  ∀ (w : Word) (s : State), s.Inv → w.getLsbD 15 = true → w.getLsbD 5 = true → w.getLsbD 3 = true →
    ∃ t, exec (decodeWord w) s = .next t ∧ t.a = wordOut w s ∧
      ((low15 s.a).toNat < 24576 → t.readMem (low15 s.a) = t.a) ∧
      (24576 ≤ (low15 s.a).toNat → t.readMem (low15 s.a) = s.readMem (low15 s.a)) ∧
      (∀ b, b ≠ low15 s.a → t.readMem b = s.readMem b)

/-- The property of the two-phase update that section 3 of 70_reset_and_hazards.md asks a modeller to test: clearing the
A-destination bit of a C word changes nothing but the new A. -/
def Obligations.WritingADisturbsNothingElse : Prop :=
  ∀ (w : Word) (s : State), w.getLsbD 15 = true →
    ∃ t, exec (decodeWord w) s = .next t ∧
      exec (decodeWord (w &&& 0xFFDF#16)) s = .next { t with a := s.a }

/-- The jump conditions by mnemonic, on the output read as a signed number (section 2 of 44_c_instruction_jump.md; that
j1, j2, j3 spell these mnemonics is marked derived in section 3 of 30_encoding.md). -/
def Obligations.JumpConditionsByMnemonic : Prop :=
  ∀ out : Word,
    let taken := fun code => jumpTaken (Jump.ofCode code) (zeroFlag out) (negFlag out)
    taken 0b000#3 = false ∧
    (taken 0b001#3 = true ↔ 0 < out.toInt) ∧
    (taken 0b010#3 = true ↔ out.toInt = 0) ∧
    (taken 0b011#3 = true ↔ 0 ≤ out.toInt) ∧
    (taken 0b100#3 = true ↔ out.toInt < 0) ∧
    (taken 0b101#3 = true ↔ out.toInt ≠ 0) ∧
    (taken 0b110#3 = true ↔ out.toInt ≤ 0) ∧
    taken 0b111#3 = true

/-- Where a tick goes (sections 1 and 3 of 44_c_instruction_jump.md): 0 under reset; the old A when a C word's jump is
taken, even if it writes A; the next address otherwise; an A word never jumps. The target A is decision D1 (log 6). -/
def Obligations.NextPcOfEveryWord : Prop :=
  ∀ (w : Word) (s : State), ∃ t, exec (decodeWord w) s = .next t ∧
    (s.resetIn = true → t.pc = 0x0000#16) ∧
    (s.resetIn = false → w.getLsbD 15 = false → t.pc = s.pc + 1) ∧
    (s.resetIn = false → w.getLsbD 15 = true →
      t.pc =
        if (w.getLsbD 2 = true ∧ (wordOut w s).toInt < 0) ∨ (w.getLsbD 1 = true ∧ (wordOut w s).toInt = 0) ∨
          (w.getLsbD 0 = true ∧ 0 < (wordOut w s).toInt) then s.a
        else s.pc + 1)

/-- A C word with no destination and no jump changes nothing but pc (section 5 of 30_encoding.md, marked derived). -/
def Obligations.NoDestNoJumpOnlyAdvances : Prop :=
  ∀ (w : Word) (s : State), w.getLsbD 15 = true → w.extractLsb' 0 6 = 0#6 →
    exec (decodeWord w) s = .next { s with pc := if s.resetIn then 0x0000#16 else s.pc + 1 }

/-- The frame of every instruction (section 3 of 45_cpu_cycle.md, marked derived): A, D and memory change only by the
destination bits, memory only at the old A's address, and ROM, Keyboard and the host's inputs never. A is also the
destination of an A word. -/
def Obligations.FrameOfEveryInstruction : Prop :=
  ∀ (i : Instr) (s t : State), exec i s = .next t →
    ((encode i).getLsbD 15 = true → (encode i).getLsbD 5 = false → t.a = s.a) ∧
    ((encode i).getLsbD 15 = false ∨ (encode i).getLsbD 4 = false → t.d = s.d) ∧
    ((encode i).getLsbD 15 = false ∨ (encode i).getLsbD 3 = false →
      (∀ b, t.readMem b = s.readMem b) ∧ t.ram = s.ram ∧ t.screen = s.screen) ∧
    (∀ b, b ≠ low15 s.a → t.readMem b = s.readMem b) ∧
    t.rom = s.rom ∧ t.kbd = s.kbd ∧ t.resetIn = s.resetIn ∧ t.loadOpen = s.loadOpen

/-! ## The tick (45_cpu_cycle.md) -/

/-- A step runs the decoded instruction: the fetched word's instruction, on the state with the load flag closed
(log 10) and nothing else changed around it. -/
def Obligations.StepRunsTheFetchedInstruction : Prop :=
  ∀ s : State, step s = exec (decodeWord (s.rom.read (s.pc.extractLsb' 0 15).toNat)) { s with loadOpen := false }

/-- The word placed for the host is the word the next step runs. -/
def Obligations.PlacedWordRunsNext : Prop :=
  ∀ (s : State) (w : Word), s.Inv →
    step (s.withFetchWord 16 w.toNat) = exec (decodeWord w) (s.withFetchWord 16 w.toNat).beginTick

/-- The step is the tick the spec writes from the raw word, unit by unit (sections 2 and 3 of 45_cpu_cycle.md): the
decoder, the 132 meanings and the commits agree with `Computer.tick` on every state. Derived: the block holds
decisions D1 and D2 (log 6 and log 8). -/
def Obligations.StepIsComputerTick : Prop :=
  ∀ s : State, step s = .next { computerTick s.resetIn s with loadOpen := false }

/-- No tick fails, stalls, traps or halts (section 3 of 45_cpu_cycle.md, marked derived): a run of any length goes on.
-/
def Obligations.TicksNeverStop : Prop := ∀ (k : Nat) (s : State), RunsFor k s

/-- Bit 15 of the program counter cell is never observable (section 3 of 10_state.md, marked derived): two states that
differ in it alone step to states that differ in it at most. -/
def Obligations.PcTopBitIsUnobservable : Prop :=
  ∀ s t : State, SameButPcTop s t → ∃ s' t', step s = .next s' ∧ step t = .next t' ∧ SameButPcTop s' t'

/-- The creation state meets the invariant. -/
def Obligations.CreationStateMeetsInvariant : Prop := State.reset.Inv

/-- Every tick keeps the invariant: each store canonical and inside its size. -/
def Obligations.StepKeepsInvariant : Prop :=
  ∀ s t : State, s.Inv → step s = .next t → t.Inv

/-! ## The host (sections 1 of 20_memory.md, 4 of 45_cpu_cycle.md, 2 of 70_reset_and_hazards.md) -/

/-- Every run of host operations keeps the invariant. -/
def Obligations.HostRunKeepsInvariant : Prop :=
  ∀ (es : List HostEvent) (s t : State), s.Inv → hostRun es s = .next t → t.Inv

/-- `loadProgram` (section 1 of 20_memory.md): word i at ROM address i and 0x0000 above; refused, with nothing loaded,
for a list longer than 32768 words and after a tick or an earlier load. The fill and the refusal are decisions D4 and
D5 (log 5 and log 10). -/
def Obligations.LoadProgramFillsTheRom : Prop :=
  ∀ (words : List Word) (s : State),
    (s.loadOpen = true → words.length ≤ 32768 →
      ∃ t, hostStep (.loadProgram words) s = .next t ∧
        (∀ addr : Addr, t.romRead addr = words.getD addr.toNat 0x0000#16) ∧
        t.loadOpen = false ∧ { t with rom := s.rom, loadOpen := true } = s) ∧
    (s.loadOpen = true → 32768 < words.length →
      hostStep (.loadProgram words) s = .refused .programTooLong) ∧
    (s.loadOpen = false → hostStep (.loadProgram words) s = .refused .loadClosed)

/-- A fetch always returns the word that `loadProgram` put there, or the fill word: no run of host operations, ticks
among them, changes the ROM after the load (section 4 of 20_memory.md; the fill is decision D4, log 5). -/
def Obligations.FetchReturnsTheLoadedWord : Prop :=
  ∀ (words : List Word) (s₀ t : State) (es : List HostEvent),
    hostStep (.loadProgram words) State.reset = .next s₀ → hostRun es s₀ = .next t →
      t.fetch = words.getD (t.pc.extractLsb' 0 15).toNat 0x0000#16

/-- With no program loaded every tick runs `@0` (section 2 of 70_reset_and_hazards.md; decision D4, log 5): A becomes 0,
pc counts, D and memory stay. -/
def Obligations.EmptyRomRunsAtZero : Prop :=
  ∀ s : State, s.rom = [] →
    step s = .next { s with
      a := 0x0000#16
      pc := if s.resetIn then 0x0000#16 else s.pc + 1
      loadOpen := false }

/-! ## The assembler (30_encoding.md sections 8 and 9) -/

/-- Rule R128: what `decodeAssembly` gives, `toAssembly` prints and `decodeAssembly` reads back bit-identical, the text
being stable; and `toBinary` undoes `decodeBinary`. -/
def Obligations.AssemblyRoundTrip : Prop :=
  (∀ (line : Text) (t t' : SymbolTable) (i : Instr), t.wf = true → decodeAssembly line t = .ok (i, t') →
    ∃ text, toAssembly i t' = some text ∧ decodeAssembly text t' = .ok (i, t')) ∧
  (∀ (w : Word) (i : Instr), decodeBinary w = .ok i → encode i = w)

/-- The symbol table stays well formed: names are symbols and no name is bound twice. -/
def Obligations.SymbolTableStaysWellFormed : Prop :=
  SymbolTable.predefined.wf = true ∧
  (∀ (lines : List Text) (n : Nat) (t : SymbolTable), t.wf = true →
    (bindLabels lines n t).wf = true ∧ (decodeLines lines n t).2.wf = true)

/-- A bound symbol keeps its address through both passes (section 8 of 30_encoding.md, "immutable for the lifetime of
the table"). -/
def Obligations.BoundSymbolsKeepTheirAddress : Prop :=
  ∀ (lines : List Text) (n : Nat) (v : Word) (t : SymbolTable) (name : Text), t.lookup name = some v →
    (bindLabels lines n t).lookup name = some v ∧ (decodeLines lines n t).2.lookup name = some v

/-- A name with no binding becomes the next variable, 16 the first, and a bound name uses up no address; an address
above 32767 is an error, as a number above it is (section 8 of 30_encoding.md; the error is decision D19, log 18). -/
def Obligations.VariablesInFirstSeenOrder : Prop :=
  SymbolTable.predefined.nextVar = 16 ∧
  (∀ (name : Text) (t : SymbolTable), isSymbol name = true →
    (t.lookup name = none → t.nextVar.toNat ≤ 32767 →
      ∃ t', decodeAssembly ('@' :: name) t = .ok (.atValue (t.nextVar.extractLsb' 0 15), t') ∧
        t'.lookup name = some t.nextVar ∧ t'.nextVar = t.nextVar + 1 ∧
        ∀ other, other ≠ name → t'.lookup other = t.lookup other) ∧
    (t.lookup name = none → 32767 < t.nextVar.toNat →
      decodeAssembly ('@' :: name) t = .error (.parse .outOfRange)) ∧
    (∀ v, t.lookup name = some v → v.toNat ≤ 32767 →
      decodeAssembly ('@' :: name) t = .ok (.atValue (v.extractLsb' 0 15), t)) ∧
    (∀ v, t.lookup name = some v → 32767 < v.toNat →
      decodeAssembly ('@' :: name) t = .error (.parse .outOfRange)))

/-- A label is bound to the number of instruction lines before it, wherever in the program it is used (sections 8 and 9
of 30_encoding.md). That a line with a parse error is counted, and that a count which does not fit the table's 16 bits
gives 65535, are the model's choices (log 16). -/
def Obligations.LabelsBindTheNextAddress : Prop :=
  ∀ (before after : List Text) (line name : Text), classify line = .label name →
    SymbolTable.predefined.lookup name = none →
    (∀ l ∈ before, classify l ≠ .label name) →
      ((codeLines before ≤ 65535 → ∃ addr, (fromAssemblyArray (before ++ line :: after)).2.lookup name = some addr ∧
          addr.toNat = codeLines before) ∧
        (65535 < codeLines before →
          (fromAssemblyArray (before ++ line :: after)).2.lookup name = some 0xFFFF#16))
end

