-- ==== Sys2Proof/Laws/Assembler.lean ====
section
/-! SUPPORT. The symbol table's operations said once: what a lookup gives after a binding (rule R122), and the address a
label gets (rule R121). -/

namespace Sys2Proof.Machine

/-- Binding a name that is bound changes nothing (rule R122). -/
theorem SymbolTable.bind_of_lookup {t : SymbolTable} {name : Text} {v : Word} (h : t.lookup name = some v)
    (addr : Word) : t.bind name addr = t := by
  simp [SymbolTable.bind, h]

/-- Binding a name that is not bound puts it at the end of the table. -/
theorem SymbolTable.bind_of_lookup_none {t : SymbolTable} {name : Text} (h : t.lookup name = none) (addr : Word) :
    t.bind name addr = { t with binds := t.binds ++ [(name, addr)] } := by
  simp [SymbolTable.bind, h]

@[simp] theorem SymbolTable.bind_nextVar (t : SymbolTable) (name : Text) (addr : Word) :
    (t.bind name addr).nextVar = t.nextVar := by
  unfold SymbolTable.bind
  split <;> rfl

/-- A lookup in a table with one more pair at its end: the old answer, else the new pair's. -/
theorem SymbolTable.lookup_append (binds : List (Text × Word)) (next next' : Word) (name other : Text) (addr : Word) :
    (SymbolTable.mk (binds ++ [(name, addr)]) next).lookup other =
      ((SymbolTable.mk binds next').lookup other).or (if name = other then some addr else none) := by
  unfold SymbolTable.lookup
  rw [List.find?_append]
  cases List.find? (fun b => b.1 == other) binds with
  | some b => rfl
  | none => by_cases h : name = other <;> simp [h]

/-- A lookup after a binding: a bound name keeps its address, and only the name itself is new. -/
theorem SymbolTable.lookup_bind (t : SymbolTable) (name other : Text) (addr : Word) :
    (t.bind name addr).lookup other = (t.lookup other).or (if name = other then some addr else none) := by
  cases h : t.lookup name with
  | none =>
    rw [SymbolTable.bind_of_lookup_none h]
    exact SymbolTable.lookup_append t.binds t.nextVar t.nextVar name other addr
  | some v =>
    rw [SymbolTable.bind_of_lookup h]
    by_cases hname : name = other
    · subst hname
      simp [h]
    · simp [hname]

/-- A label's address is the number of lines before it wherever 16 bits hold that number (rules R121 and R122). -/
theorem labelAddress_toNat {n : Nat} (h : n ≤ 65535) : (labelAddress n).toNat = n := by
  simp [labelAddress, Nat.min_eq_left h, Nat.mod_eq_of_lt (Nat.lt_succ_of_le h)]

/-- Past 16 bits it is the largest address. -/
theorem labelAddress_of_lt {n : Nat} (h : 65535 < n) : labelAddress n = 0xFFFF#16 := by
  simp [labelAddress, Nat.min_eq_right (Nat.le_of_lt h)]

/-- A value that fits the constant's 15 bits is an A-instruction (rule R119). -/
theorem atOf_of_le {v : Nat} (h : v ≤ Config.maxValue) : atOf v = .ok (.atValue (BitVec.ofNat 15 v)) := if_pos h

/-- A value that does not is out of range (rule R119, decision D19). -/
theorem atOf_of_lt {v : Nat} (h : Config.maxValue < v) : atOf v = .error (.parse .outOfRange) :=
  if_neg (Nat.not_le_of_lt h)

end Sys2Proof.Machine
end

