-- ==== Sys2Proof/Laws/Decode.lean ====
section
/-! SUPPORT. The fields of an encoded word are the fields it was made of, and the decoder on encoded words. -/

namespace Sys2Proof

@[simp] theorem AluCtl.ofCode_code (c : AluCtl) : AluCtl.ofCode c.code = c := by
  obtain ⟨zx, nx, zy, ny, f, no⟩ := c
  revert zx nx zy ny f no
  decide

@[simp] theorem AluCtl.code_ofCode (c : BitVec 6) : (AluCtl.ofCode c).code = c := by
  revert c
  decide

@[simp] theorem Dest.ofCode_code (d : Dest) : Dest.ofCode d.code = d := by
  obtain ⟨a, d, m⟩ := d
  revert a d m
  decide

@[simp] theorem Dest.code_ofCode (c : BitVec 3) : (Dest.ofCode c).code = c := by
  revert c
  decide

@[simp] theorem Jump.ofCode_code (j : Jump) : Jump.ofCode j.code = j := by
  obtain ⟨n, z, p⟩ := j
  revert n z p
  decide

@[simp] theorem Jump.code_ofCode (c : BitVec 3) : (Jump.ofCode c).code = c := by
  revert c
  decide

@[simp] theorem YSource.ofBit_code (y : YSource) : YSource.ofBit (y.code.getLsbD 0) = y := by
  cases y <;> rfl

section Fields

variable (top : BitVec 3) (y : YSource) (c : BitVec 6) (dest : Dest) (jump : Jump)

/-- A bit of an encoded word is a bit of the field that covers it (rule R103). -/
theorem getLsbD_cWord (i : Nat) : (cWord top y c dest jump).getLsbD i =
    if i < 3 then jump.code.getLsbD i
    else if i - 3 < 3 then dest.code.getLsbD (i - 3)
    else if i - 3 - 3 < 6 then c.getLsbD (i - 3 - 3)
    else if i - 3 - 3 - 6 < 1 then y.code.getLsbD (i - 3 - 3 - 6)
    else top.getLsbD (i - 3 - 3 - 6 - 1) := by
  refine (BitVec.getLsbD_append (x := top ++ y.code ++ c ++ dest.code) (y := jump.code) (i := i)).trans ?_
  rw [BitVec.getLsbD_append, BitVec.getLsbD_append, BitVec.getLsbD_append]

theorem extract_jump_cWord : (cWord top y c dest jump).extractLsb' 0 3 = jump.code := by
  apply BitVec.eq_of_getLsbD_eq
  intro i hi
  rw [BitVec.getLsbD_extractLsb', getLsbD_cWord]
  simp [hi]

theorem extract_dest_cWord : (cWord top y c dest jump).extractLsb' 3 3 = dest.code := by
  apply BitVec.eq_of_getLsbD_eq
  intro i hi
  rw [BitVec.getLsbD_extractLsb', getLsbD_cWord]
  simp [hi]

theorem extract_ctl_cWord : (cWord top y c dest jump).extractLsb' 6 6 = c := by
  apply BitVec.eq_of_getLsbD_eq
  intro i hi
  rw [BitVec.getLsbD_extractLsb', getLsbD_cWord]
  have h3 : ¬ 6 + i < 3 := by omega
  have h6 : ¬ 6 + i - 3 < 3 := by omega
  have hi' : 6 + i - 3 - 3 = i := by omega
  simp [hi, h3, h6, hi']

theorem ySourceOf_cWord : ySourceOf (cWord top y c dest jump) = y := by
  rw [ySourceOf, getLsbD_cWord]
  simpa using YSource.ofBit_code y

theorem jumpOf_cWord : jumpOf (cWord top y c dest jump) = jump := by
  rw [jumpOf, extract_jump_cWord, Jump.ofCode_code]

theorem destOf_cWord : destOf (cWord top y c dest jump) = dest := by
  rw [destOf, extract_dest_cWord, Dest.ofCode_code]

theorem ctlOf_cWord : ctlOf (cWord top y c dest jump) = AluCtl.ofCode c := by
  rw [ctlOf, extract_ctl_cWord]

/-- The top three bits of an encoded word. -/
theorem top_cWord (i : Nat) : (cWord top y c dest jump).getLsbD (13 + i) = top.getLsbD i := by
  rw [getLsbD_cWord]
  have h3 : ¬ 13 + i < 3 := by omega
  have h6 : ¬ 13 + i - 3 < 3 := by omega
  have h12 : ¬ 13 + i - 3 - 3 < 6 := by omega
  have h13 : ¬ 13 + i - 3 - 3 - 6 < 1 := by omega
  have hi : 13 + i - 3 - 3 - 6 - 1 = i := by omega
  simp only [h3, h6, h12, h13, hi, if_false]

end Fields

/-! ## The decoder on encoded words -/

section Decoder

variable (y : YSource) (c : BitVec 6) (ctl : AluCtl) (dest : Dest) (jump : Jump)

theorem decodeWord_cWord :
    decodeWord (cWord 0b111#3 y c dest jump) = cInstr y (AluCtl.ofCode c) dest jump := by
  rw [decodeWord, top_cWord _ _ _ _ _ 2, top_cWord _ _ _ _ _ 1, top_cWord _ _ _ _ _ 0, ySourceOf_cWord,
    ctlOf_cWord, destOf_cWord, jumpOf_cWord]
  rfl

theorem decodeWord_malformed00 :
    decodeWord (encode (.malformed00 y ctl dest jump)) = .malformed00 y ctl dest jump := by
  rw [encode, decodeWord, top_cWord _ _ _ _ _ 2, top_cWord _ _ _ _ _ 1, top_cWord _ _ _ _ _ 0, ySourceOf_cWord,
    ctlOf_cWord, destOf_cWord, jumpOf_cWord, AluCtl.ofCode_code]
  rfl

theorem decodeWord_malformed01 :
    decodeWord (encode (.malformed01 y ctl dest jump)) = .malformed01 y ctl dest jump := by
  rw [encode, decodeWord, top_cWord _ _ _ _ _ 2, top_cWord _ _ _ _ _ 1, top_cWord _ _ _ _ _ 0, ySourceOf_cWord,
    ctlOf_cWord, destOf_cWord, jumpOf_cWord, AluCtl.ofCode_code]
  rfl

theorem decodeWord_malformed10 :
    decodeWord (encode (.malformed10 y ctl dest jump)) = .malformed10 y ctl dest jump := by
  rw [encode, decodeWord, top_cWord _ _ _ _ _ 2, top_cWord _ _ _ _ _ 1, top_cWord _ _ _ _ _ 0, ySourceOf_cWord,
    ctlOf_cWord, destOf_cWord, jumpOf_cWord, AluCtl.ofCode_code]
  rfl

theorem decodeWord_atValue (value : Addr) : decodeWord (encode (.atValue value)) = .atValue value := by
  have bit (i : Nat) : (encode (.atValue value)).getLsbD i =
      if i < 15 then value.getLsbD i else (0#1).getLsbD (i - 15) :=
    BitVec.getLsbD_append (x := 0#1) (y := value) (i := i)
  have field : valueOf (encode (.atValue value)) = value := by
    apply BitVec.eq_of_getLsbD_eq
    intro i hi
    rw [valueOf, BitVec.getLsbD_extractLsb', bit]
    simp [hi]
  rw [decodeWord, bit 15, field]
  rfl

end Decoder

end Sys2Proof
end

