-- ==== Sys2Proof/Laws/State.lean ====
section
/-! SUPPORT. One lemma per field per update of the state, so that no later proof unfolds a record update. -/

namespace Sys2Proof.Machine

/-! ## `writeMem` -/

@[simp] theorem State.writeMem_a (s : State) (addr : Addr) (v : Word) : (s.writeMem addr v).a = s.a := rfl
@[simp] theorem State.writeMem_d (s : State) (addr : Addr) (v : Word) : (s.writeMem addr v).d = s.d := rfl
@[simp] theorem State.writeMem_pc (s : State) (addr : Addr) (v : Word) : (s.writeMem addr v).pc = s.pc := rfl
@[simp] theorem State.writeMem_kbd (s : State) (addr : Addr) (v : Word) : (s.writeMem addr v).kbd = s.kbd := rfl
@[simp] theorem State.writeMem_rom (s : State) (addr : Addr) (v : Word) : (s.writeMem addr v).rom = s.rom := rfl
@[simp] theorem State.writeMem_resetIn (s : State) (addr : Addr) (v : Word) :
    (s.writeMem addr v).resetIn = s.resetIn := rfl
@[simp] theorem State.writeMem_loadOpen (s : State) (addr : Addr) (v : Word) :
    (s.writeMem addr v).loadOpen = s.loadOpen := rfl

/-! ## `commitA` -/

@[simp] theorem State.commitA_a (s : State) (v : Word) : (s.commitA v).a = v := rfl
@[simp] theorem State.commitA_d (s : State) (v : Word) : (s.commitA v).d = s.d := rfl
@[simp] theorem State.commitA_pc (s : State) (v : Word) :
    (s.commitA v).pc = pcNext s.pc s.a false true s.resetIn := rfl
@[simp] theorem State.commitA_ram (s : State) (v : Word) : (s.commitA v).ram = s.ram := rfl
@[simp] theorem State.commitA_screen (s : State) (v : Word) : (s.commitA v).screen = s.screen := rfl
@[simp] theorem State.commitA_kbd (s : State) (v : Word) : (s.commitA v).kbd = s.kbd := rfl
@[simp] theorem State.commitA_rom (s : State) (v : Word) : (s.commitA v).rom = s.rom := rfl
@[simp] theorem State.commitA_resetIn (s : State) (v : Word) : (s.commitA v).resetIn = s.resetIn := rfl
@[simp] theorem State.commitA_loadOpen (s : State) (v : Word) : (s.commitA v).loadOpen = s.loadOpen := rfl

/-! ## `commitC` -/

variable (s : State) (r : AluResult) (dest : Dest) (jump : Jump)

@[simp] theorem State.commitC_a : (s.commitC r dest jump).a = if dest.toA then r.out else s.a := rfl
@[simp] theorem State.commitC_d : (s.commitC r dest jump).d = if dest.toD then r.out else s.d := rfl
@[simp] theorem State.commitC_pc :
    (s.commitC r dest jump).pc = pcNext s.pc s.a (jumpTaken jump r.zr r.ng) true s.resetIn := rfl
@[simp] theorem State.commitC_ram :
    (s.commitC r dest jump).ram = if dest.toM then (s.writeMem s.addressM r.out).ram else s.ram := by
  cases h : dest.toM <;> simp [State.commitC, h]
@[simp] theorem State.commitC_screen :
    (s.commitC r dest jump).screen = if dest.toM then (s.writeMem s.addressM r.out).screen else s.screen := by
  cases h : dest.toM <;> simp [State.commitC, h]
@[simp] theorem State.commitC_kbd : (s.commitC r dest jump).kbd = s.kbd := by
  cases h : dest.toM <;> simp [State.commitC, h]
@[simp] theorem State.commitC_rom : (s.commitC r dest jump).rom = s.rom := by
  cases h : dest.toM <;> simp [State.commitC, h]
@[simp] theorem State.commitC_resetIn : (s.commitC r dest jump).resetIn = s.resetIn := by
  cases h : dest.toM <;> simp [State.commitC, h]
@[simp] theorem State.commitC_loadOpen : (s.commitC r dest jump).loadOpen = s.loadOpen := by
  cases h : dest.toM <;> simp [State.commitC, h]

/-! ## `beginTick` -/

@[simp] theorem State.beginTick_a : s.beginTick.a = s.a := rfl
@[simp] theorem State.beginTick_d : s.beginTick.d = s.d := rfl
@[simp] theorem State.beginTick_pc : s.beginTick.pc = s.pc := rfl
@[simp] theorem State.beginTick_ram : s.beginTick.ram = s.ram := rfl
@[simp] theorem State.beginTick_screen : s.beginTick.screen = s.screen := rfl
@[simp] theorem State.beginTick_kbd : s.beginTick.kbd = s.kbd := rfl
@[simp] theorem State.beginTick_rom : s.beginTick.rom = s.rom := rfl
@[simp] theorem State.beginTick_resetIn : s.beginTick.resetIn = s.resetIn := rfl
@[simp] theorem State.beginTick_loadOpen : s.beginTick.loadOpen = false := rfl
@[simp] theorem State.beginTick_fetch : s.beginTick.fetch = s.fetch := rfl
@[simp] theorem State.beginTick_readMem (addr : Addr) : s.beginTick.readMem addr = s.readMem addr := rfl

/-! ## The host's updates -/

@[simp] theorem State.setKeyboard_kbd (w : Word) : (s.setKeyboard w).kbd = w := rfl
@[simp] theorem State.setKeyboard_rom (w : Word) : (s.setKeyboard w).rom = s.rom := rfl
@[simp] theorem State.setKeyboard_ram (w : Word) : (s.setKeyboard w).ram = s.ram := rfl
@[simp] theorem State.setKeyboard_screen (w : Word) : (s.setKeyboard w).screen = s.screen := rfl
@[simp] theorem State.setKeyboard_loadOpen (w : Word) : (s.setKeyboard w).loadOpen = s.loadOpen := rfl
@[simp] theorem State.poke_rom (addr : Addr) (w : Word) : (s.poke addr w).rom = s.rom := rfl
@[simp] theorem State.poke_loadOpen (addr : Addr) (w : Word) : (s.poke addr w).loadOpen = s.loadOpen := rfl
@[simp] theorem State.coldReset_rom : s.coldReset.rom = s.rom := rfl
@[simp] theorem State.coldReset_ram : s.coldReset.ram = [] := rfl
@[simp] theorem State.coldReset_screen : s.coldReset.screen = [] := rfl
@[simp] theorem State.coldReset_loadOpen : s.coldReset.loadOpen = s.loadOpen := rfl

/-! ## `withFetchWord` -/

variable (nbits w : Nat)

@[simp] theorem State.withFetchWord_pc : (s.withFetchWord nbits w).pc = s.pc := rfl
@[simp] theorem State.withFetchWord_a : (s.withFetchWord nbits w).a = s.a := rfl
@[simp] theorem State.withFetchWord_d : (s.withFetchWord nbits w).d = s.d := rfl
@[simp] theorem State.withFetchWord_rom :
    (s.withFetchWord nbits w).rom = s.rom.write (low15 s.pc).toNat (tableWord nbits w) := rfl

end Sys2Proof.Machine
end

