-- ==== Sys2Proof/Laws/Memory.lean ====
section
/-! SUPPORT. The stores keep their canonical form, and a read after a store; the same for the data memory through the
router; and for whole states. -/

namespace Sys2Proof.Machine

/-! ## One store -/

theorem Memory.wfFrom_cons {size lo k : Nat} {w : Word} {m : Memory} :
    Memory.wfFrom size lo ((k, w) :: m) = true ↔
      lo ≤ k ∧ k < size ∧ w ≠ Config.fill ∧ Memory.wfFrom size (k + 1) m = true := by
  simp [Memory.wfFrom, and_assoc]

/-- A lower starting bound is a weaker demand. -/
theorem Memory.wfFrom_mono {size lo hi : Nat} {m : Memory} (hle : lo ≤ hi)
    (h : Memory.wfFrom size hi m = true) : Memory.wfFrom size lo m = true := by
  cases m with
  | nil => rfl
  | cons e m =>
    obtain ⟨k, w⟩ := e
    rw [Memory.wfFrom_cons] at h ⊢
    exact ⟨hle.trans h.1, h.2⟩

/-- Below its starting bound a canonical store reads as the fill word. -/
theorem Memory.read_below {size lo i : Nat} {m : Memory} (h : Memory.wfFrom size lo m = true) (hi : i < lo) :
    m.read i = Config.fill := by
  induction m generalizing lo with
  | nil => rfl
  | cons e m ih =>
    obtain ⟨k, w⟩ := e
    rw [Memory.wfFrom_cons] at h
    rw [Memory.read, if_neg (by omega)]
    exact ih h.2.2.2 (by omega)

/-- Storing at an index inside the bounds keeps the canonical form. -/
theorem Memory.wfFrom_write {size lo i : Nat} {m : Memory} (v : Word) (h : Memory.wfFrom size lo m = true)
    (hlo : lo ≤ i) (hi : i < size) : Memory.wfFrom size lo (m.write i v) = true := by
  induction m generalizing lo with
  | nil =>
    unfold Memory.write
    split
    · rfl
    · rename_i hv
      simp only [Memory.wfFrom_cons]
      exact ⟨hlo, hi, hv, rfl⟩
  | cons e m ih =>
    obtain ⟨k, w⟩ := e
    rw [Memory.wfFrom_cons] at h
    rw [Memory.write]
    split
    · rename_i hk
      rw [Memory.wfFrom_cons]
      exact ⟨h.1, h.2.1, h.2.2.1, ih h.2.2.2 hk⟩
    · rename_i hk
      have tail : Memory.wfFrom size (i + 1) (if k = i then m else (k, w) :: m) = true := by
        split
        · rename_i hki
          exact hki ▸ h.2.2.2
        · rw [Memory.wfFrom_cons]
          exact ⟨by omega, h.2.1, h.2.2.1, h.2.2.2⟩
      dsimp only
      split
      · exact Memory.wfFrom_mono (by omega) tail
      · rename_i hv
        rw [Memory.wfFrom_cons]
        exact ⟨hlo, hi, hv, tail⟩

theorem Memory.wf_write {size i : Nat} {m : Memory} (v : Word) (h : m.wf size = true) (hi : i < size) :
    (m.write i v).wf size = true :=
  Memory.wfFrom_write v h (Nat.zero_le i) hi

/-- A store leaves every other index alone, whatever the form of the store. -/
theorem Memory.read_write_of_ne {m : Memory} {i j : Nat} (v : Word) (hne : j ≠ i) :
    (m.write i v).read j = m.read j := by
  induction m with
  | nil =>
    unfold Memory.write
    split
    · rfl
    · exact if_neg (Ne.symm hne)
  | cons e m ih =>
    obtain ⟨k, w⟩ := e
    rw [Memory.write]
    split
    · rw [Memory.read, Memory.read, ih]
    · have tail : Memory.read (if k = i then m else (k, w) :: m) j = Memory.read ((k, w) :: m) j := by
        split
        · rename_i hki
          rw [Memory.read, if_neg (by omega)]
        · rfl
      dsimp only
      split
      · exact tail
      · rw [Memory.read, if_neg (Ne.symm hne), tail]

/-- In a canonical store a read after a store gives the word stored. -/
theorem Memory.read_write_same {size lo i : Nat} {m : Memory} (v : Word)
    (h : Memory.wfFrom size lo m = true) : (m.write i v).read i = v := by
  induction m generalizing lo with
  | nil =>
    unfold Memory.write
    split
    · rename_i hv
      exact hv.symm
    · rw [Memory.read, if_pos rfl]
  | cons e m ih =>
    obtain ⟨k, w⟩ := e
    rw [Memory.wfFrom_cons] at h
    rw [Memory.write]
    split
    · rename_i hk
      rw [Memory.read, if_neg (by omega), ih h.2.2.2]
    · dsimp only
      split
      · rename_i hk hv
        rw [hv]
        split
        · exact Memory.read_below h.2.2.2 (by omega)
        · rw [Memory.read, if_neg ‹_›]
          exact Memory.read_below h.2.2.2 (by omega)
      · rw [Memory.read, if_pos rfl]

theorem Memory.read_write {size i j : Nat} {m : Memory} (v : Word) (h : m.wf size = true) :
    (m.write i v).read j = if j = i then v else m.read j := by
  split
  · rename_i hj
    rw [hj]
    exact Memory.read_write_same v h
  · exact Memory.read_write_of_ne v ‹_›

theorem Memory.wf_writeList {size : Nat} (words : List Word) {m : Memory} {base : Nat} (h : m.wf size = true)
    (hsize : base + words.length ≤ size) : (m.writeList base words).wf size = true := by
  induction words generalizing m base with
  | nil => exact h
  | cons w ws ih =>
    simp only [List.length_cons] at hsize
    exact ih (Memory.wf_write w h (by omega)) (by omega)

/-! ## Whole states -/

theorem State.reset_inv : State.reset.Inv := ⟨rfl, rfl, rfl⟩

/-- The routing function's four cases (rule R62). -/
theorem route_cases (addr : Addr) :
    (route addr = .ram ∧ addr.toNat < Config.ramWords) ∨
    (route addr = .screen ∧ Config.screenBase ≤ addr.toNat ∧ addr.toNat < Config.kbdAddr) ∨
    (route addr = .keyboard ∧ addr.toNat = Config.kbdAddr) ∨
    (route addr = .void ∧ Config.kbdAddr < addr.toNat) := by
  by_cases hr : addr.toNat < Config.ramWords
  · exact .inl ⟨if_pos hr, hr⟩
  · by_cases hs : addr.toNat < Config.kbdAddr
    · exact .inr (.inl ⟨(if_neg hr).trans (if_pos hs), Nat.le_of_not_lt hr, hs⟩)
    · by_cases hk : addr.toNat = Config.kbdAddr
      · exact .inr (.inr (.inl ⟨(if_neg hr).trans ((if_neg hs).trans (if_pos hk)), hk⟩))
      · exact .inr (.inr (.inr ⟨(if_neg hr).trans ((if_neg hs).trans (if_neg hk)),
          Nat.lt_of_le_of_ne (Nat.le_of_not_lt hs) (Ne.symm hk)⟩))

theorem route_ram_lt {addr : Addr} (h : route addr = .ram) : addr.toNat < Config.ramWords := by
  rcases route_cases addr with ⟨_, b⟩ | ⟨e, _⟩ | ⟨e, _⟩ | ⟨e, _⟩
  · exact b
  all_goals rw [h] at e; cases e

theorem route_screen_bounds {addr : Addr} (h : route addr = .screen) :
    Config.screenBase ≤ addr.toNat ∧ addr.toNat < Config.kbdAddr := by
  rcases route_cases addr with ⟨e, _⟩ | ⟨_, b⟩ | ⟨e, _⟩ | ⟨e, _⟩
  · rw [h] at e; cases e
  · exact b
  all_goals rw [h] at e; cases e

theorem screenIndex_lt {addr : Addr} (h : route addr = .screen) : screenIndex addr < Config.screenWords := by
  obtain ⟨hlo, hhi⟩ := route_screen_bounds h
  exact Nat.sub_lt_left_of_lt_add hlo hhi

/-- A store to the data memory keeps the invariant. -/
theorem State.Inv.writeMem {s : State} (h : s.Inv) (addr : Addr) (v : Word) : (s.writeMem addr v).Inv where
  ram := by
    unfold State.writeMem
    dsimp only
    split
    · exact Memory.wf_write v h.ram (route_ram_lt ‹_›)
    · exact h.ram
  screen := by
    unfold State.writeMem
    dsimp only
    split
    · exact Memory.wf_write v h.screen (screenIndex_lt ‹_›)
    · exact h.screen
  rom := h.rom

end Sys2Proof.Machine
end

