-- ==== Sys2Proof/Laws/Exec.lean ====
section
/-! SUPPORT. What the shared operations and `exec` can do, said once: an instruction is one A-commit or one C-commit,
and what each commit does to memory and to the invariant. -/

namespace Sys2Proof.Machine

/-! ## `exec` as two shared operations -/

theorem exec_atValue (value : Addr) (s : State) :
    exec (.atValue value) s = .next (s.commitA (immediate value)) := rfl

/-- The 128 well-formed C constructors are one operation: each one's control code is the one its comp value spells. -/
theorem exec_cInstr (y : YSource) (ctl : AluCtl) (dest : Dest) (jump : Jump) (s : State) :
    exec (cInstr y ctl dest jump) s = execC y ctl dest jump s := by
  obtain ⟨zx, nx, zy, ny, f, no⟩ := ctl
  cases y <;> cases zx <;> cases nx <;> cases zy <;> cases ny <;> cases f <;> cases no <;> rfl

/-- A word with bit 15 set executes by its fields, whatever bits 14 and 13 are (rule R303). -/
theorem exec_decodeWord_of_isC {w : Word} (h : w.getLsbD 15 = true) (s : State) :
    exec (decodeWord w) s = execC (ySourceOf w) (ctlOf w) (destOf w) (jumpOf w) s := by
  unfold decodeWord
  rw [if_pos h]
  split
  · exact exec_cInstr _ _ _ _ s
  all_goals rfl

/-- A word with bit 15 clear loads its value into A (rule R200). -/
theorem exec_decodeWord_of_isA {w : Word} (h : w.getLsbD 15 = false) (s : State) :
    exec (decodeWord w) s = .next (s.commitA (immediate (valueOf w))) := by
  unfold decodeWord
  rw [if_neg (Bool.eq_false_iff.mp h)]
  rfl

theorem execC_next (y : YSource) (ctl : AluCtl) (dest : Dest) (jump : Jump) (s : State) :
    execC y ctl dest jump s = .next (s.commitC (alu s.xOperand (s.yOperand y) ctl) dest jump) := rfl

/-- One tick is the commit of an A word or of a C word, on the state whose load flag is closed. -/
theorem step_cases (s : State) :
    (s.fetch.getLsbD 15 = false ∧ step s = .next (s.beginTick.commitA (immediate (valueOf s.fetch)))) ∨
    (s.fetch.getLsbD 15 = true ∧ step s = .next (s.beginTick.commitC
      (alu s.d (s.beginTick.yOperand (ySourceOf s.fetch)) (ctlOf s.fetch)) (destOf s.fetch) (jumpOf s.fetch))) := by
  cases h : s.fetch.getLsbD 15 with
  | false => exact .inl ⟨rfl, exec_decodeWord_of_isA h _⟩
  | true => exact .inr ⟨rfl, exec_decodeWord_of_isC h _⟩

/-! ## The commits and memory -/

/-- A commit that stores nothing leaves every address reading as before. -/
theorem State.commitC_readMem_of_not_toM (s : State) (r : AluResult) {dest : Dest} (jump : Jump)
    (h : dest.toM = false) (addr : Addr) : (s.commitC r dest jump).readMem addr = s.readMem addr := by
  simp [State.readMem, h]

/-- A commit that stores reads as the store alone does. -/
theorem State.commitC_readMem_of_toM (s : State) (r : AluResult) {dest : Dest} (jump : Jump)
    (h : dest.toM = true) (addr : Addr) :
    (s.commitC r dest jump).readMem addr = (s.writeMem s.addressM r.out).readMem addr := by
  simp [State.readMem, h]

/-- A store leaves every other address reading as before. -/
theorem State.readMem_writeMem_of_ne (s : State) {addr other : Addr} (v : Word) (hne : other ≠ addr) :
    (s.writeMem addr v).readMem other = s.readMem other := by
  have nat_ne : other.toNat ≠ addr.toNat := fun e => hne (BitVec.eq_of_toNat_eq e)
  unfold State.readMem State.writeMem
  dsimp only
  split
  · split
    · exact Memory.read_write_of_ne v nat_ne
    · rfl
  · rename_i hother
    split
    · rename_i haddr
      have bo := (route_screen_bounds hother).1
      have ba := (route_screen_bounds haddr).1
      exact Memory.read_write_of_ne v (fun e => nat_ne ((tsub_left_inj bo ba).mp e))
    · rfl
  all_goals rfl

/-! ## The commits and the invariant -/

theorem State.Inv.beginTick {s : State} (h : s.Inv) : s.beginTick.Inv := ⟨h.ram, h.screen, h.rom⟩

theorem State.Inv.commitA {s : State} (h : s.Inv) (v : Word) : (s.commitA v).Inv := ⟨h.ram, h.screen, h.rom⟩

theorem State.Inv.commitC {s : State} (h : s.Inv) (r : AluResult) (dest : Dest) (jump : Jump) :
    (s.commitC r dest jump).Inv where
  ram := by
    rw [State.commitC_ram]
    split
    · exact (h.writeMem _ _).ram
    · exact h.ram
  screen := by
    rw [State.commitC_screen]
    split
    · exact (h.writeMem _ _).screen
    · exact h.screen
  rom := by
    rw [State.commitC_rom]
    exact h.rom

/-- What `loadProgram` can answer: a refusal for its reason, or the ROM it builds with the load flag closed. -/
theorem loadProgram_cases (words : List Word) (s : State) :
    (s.loadOpen = false ∧ loadProgram words s = .refused .loadClosed) ∨
    (s.loadOpen = true ∧ Config.romWords < words.length ∧ loadProgram words s = .refused .programTooLong) ∨
    (s.loadOpen = true ∧ words.length ≤ Config.romWords ∧
      loadProgram words s = .next { s with rom := Memory.writeList [] 0 words, loadOpen := false }) := by
  cases hopen : s.loadOpen with
  | false => exact .inl ⟨rfl, if_pos (by simp [hopen])⟩
  | true =>
    have skip : ¬ (!s.loadOpen) = true := by simp [hopen]
    by_cases hlen : Config.romWords < words.length
    · exact .inr (.inl ⟨rfl, hlen, (if_neg skip).trans (if_pos hlen)⟩)
    · exact .inr (.inr ⟨rfl, Nat.le_of_not_lt hlen, (if_neg skip).trans (if_neg hlen)⟩)

/-- The ROM a load builds is canonical. -/
theorem wf_loadedRom {words : List Word} (h : words.length ≤ Config.romWords) :
    (Memory.writeList [] 0 words).wf Config.romWords = true :=
  Memory.wf_writeList words rfl ((Nat.zero_add _).trans_le h)

/-- Placing a fetch word keeps the invariant. -/
theorem State.Inv.withFetchWord {s : State} (h : s.Inv) (nbits w : Nat) : (s.withFetchWord nbits w).Inv :=
  ⟨h.ram, h.screen, Memory.wf_write _ h.rom (low15 s.pc).isLt⟩

/-- The step after placing a word fetches exactly it. -/
theorem State.fetch_withFetchWord {s : State} (h : s.Inv) (nbits w : Nat) :
    (s.withFetchWord nbits w).fetch = tableWord nbits w :=
  Memory.read_write_same _ h.rom

end Sys2Proof.Machine
end

