-- ==== Sys2Proof/Laws/PerInstr.lean ====
section
/-! SUPPORT. Statements made per instruction: decoding an instruction's word gives the instruction back (rules R109 and
R111). -/

namespace Sys2Proof.Laws.RoundTrip

/-- Decoding the encoded instruction gives it back, every field at every value. -/
def Statement (i : Instr) : Prop := decodeWord (encode i) = i

theorem atValue (value : Addr) : Statement (.atValue value) := decodeWord_atValue value

theorem zero (dest : Dest) (jump : Jump) : Statement (.zero dest jump) :=
  decodeWord_cWord .regA 0b101010#6 dest jump

theorem one (dest : Dest) (jump : Jump) : Statement (.one dest jump) :=
  decodeWord_cWord .regA 0b111111#6 dest jump

theorem negOne (dest : Dest) (jump : Jump) : Statement (.negOne dest jump) :=
  decodeWord_cWord .regA 0b111010#6 dest jump

theorem passD (dest : Dest) (jump : Jump) : Statement (.passD dest jump) :=
  decodeWord_cWord .regA 0b001100#6 dest jump

theorem passA (dest : Dest) (jump : Jump) : Statement (.passA dest jump) :=
  decodeWord_cWord .regA 0b110000#6 dest jump

theorem passM (dest : Dest) (jump : Jump) : Statement (.passM dest jump) :=
  decodeWord_cWord .mem 0b110000#6 dest jump

theorem notD (dest : Dest) (jump : Jump) : Statement (.notD dest jump) :=
  decodeWord_cWord .regA 0b001101#6 dest jump

theorem notA (dest : Dest) (jump : Jump) : Statement (.notA dest jump) :=
  decodeWord_cWord .regA 0b110001#6 dest jump

theorem notM (dest : Dest) (jump : Jump) : Statement (.notM dest jump) :=
  decodeWord_cWord .mem 0b110001#6 dest jump

theorem negD (dest : Dest) (jump : Jump) : Statement (.negD dest jump) :=
  decodeWord_cWord .regA 0b001111#6 dest jump

theorem negA (dest : Dest) (jump : Jump) : Statement (.negA dest jump) :=
  decodeWord_cWord .regA 0b110011#6 dest jump

theorem negM (dest : Dest) (jump : Jump) : Statement (.negM dest jump) :=
  decodeWord_cWord .mem 0b110011#6 dest jump

theorem incD (dest : Dest) (jump : Jump) : Statement (.incD dest jump) :=
  decodeWord_cWord .regA 0b011111#6 dest jump

theorem incA (dest : Dest) (jump : Jump) : Statement (.incA dest jump) :=
  decodeWord_cWord .regA 0b110111#6 dest jump

theorem incM (dest : Dest) (jump : Jump) : Statement (.incM dest jump) :=
  decodeWord_cWord .mem 0b110111#6 dest jump

theorem decD (dest : Dest) (jump : Jump) : Statement (.decD dest jump) :=
  decodeWord_cWord .regA 0b001110#6 dest jump

theorem decA (dest : Dest) (jump : Jump) : Statement (.decA dest jump) :=
  decodeWord_cWord .regA 0b110010#6 dest jump

theorem decM (dest : Dest) (jump : Jump) : Statement (.decM dest jump) :=
  decodeWord_cWord .mem 0b110010#6 dest jump

theorem dPlusA (dest : Dest) (jump : Jump) : Statement (.dPlusA dest jump) :=
  decodeWord_cWord .regA 0b000010#6 dest jump

theorem dPlusM (dest : Dest) (jump : Jump) : Statement (.dPlusM dest jump) :=
  decodeWord_cWord .mem 0b000010#6 dest jump

theorem dMinusA (dest : Dest) (jump : Jump) : Statement (.dMinusA dest jump) :=
  decodeWord_cWord .regA 0b010011#6 dest jump

theorem dMinusM (dest : Dest) (jump : Jump) : Statement (.dMinusM dest jump) :=
  decodeWord_cWord .mem 0b010011#6 dest jump

theorem aMinusD (dest : Dest) (jump : Jump) : Statement (.aMinusD dest jump) :=
  decodeWord_cWord .regA 0b000111#6 dest jump

theorem mMinusD (dest : Dest) (jump : Jump) : Statement (.mMinusD dest jump) :=
  decodeWord_cWord .mem 0b000111#6 dest jump

theorem dAndA (dest : Dest) (jump : Jump) : Statement (.dAndA dest jump) :=
  decodeWord_cWord .regA 0b000000#6 dest jump

theorem dAndM (dest : Dest) (jump : Jump) : Statement (.dAndM dest jump) :=
  decodeWord_cWord .mem 0b000000#6 dest jump

theorem dOrA (dest : Dest) (jump : Jump) : Statement (.dOrA dest jump) :=
  decodeWord_cWord .regA 0b010101#6 dest jump

theorem dOrM (dest : Dest) (jump : Jump) : Statement (.dOrM dest jump) :=
  decodeWord_cWord .mem 0b010101#6 dest jump

theorem comp0000001 (dest : Dest) (jump : Jump) : Statement (.comp0000001 dest jump) :=
  decodeWord_cWord .regA 0b000001#6 dest jump

theorem comp0000011 (dest : Dest) (jump : Jump) : Statement (.comp0000011 dest jump) :=
  decodeWord_cWord .regA 0b000011#6 dest jump

theorem comp0000100 (dest : Dest) (jump : Jump) : Statement (.comp0000100 dest jump) :=
  decodeWord_cWord .regA 0b000100#6 dest jump

theorem comp0000101 (dest : Dest) (jump : Jump) : Statement (.comp0000101 dest jump) :=
  decodeWord_cWord .regA 0b000101#6 dest jump

theorem comp0000110 (dest : Dest) (jump : Jump) : Statement (.comp0000110 dest jump) :=
  decodeWord_cWord .regA 0b000110#6 dest jump

theorem comp0001000 (dest : Dest) (jump : Jump) : Statement (.comp0001000 dest jump) :=
  decodeWord_cWord .regA 0b001000#6 dest jump

theorem comp0001001 (dest : Dest) (jump : Jump) : Statement (.comp0001001 dest jump) :=
  decodeWord_cWord .regA 0b001001#6 dest jump

theorem comp0001010 (dest : Dest) (jump : Jump) : Statement (.comp0001010 dest jump) :=
  decodeWord_cWord .regA 0b001010#6 dest jump

theorem comp0001011 (dest : Dest) (jump : Jump) : Statement (.comp0001011 dest jump) :=
  decodeWord_cWord .regA 0b001011#6 dest jump

theorem comp0010000 (dest : Dest) (jump : Jump) : Statement (.comp0010000 dest jump) :=
  decodeWord_cWord .regA 0b010000#6 dest jump

theorem comp0010001 (dest : Dest) (jump : Jump) : Statement (.comp0010001 dest jump) :=
  decodeWord_cWord .regA 0b010001#6 dest jump

theorem comp0010010 (dest : Dest) (jump : Jump) : Statement (.comp0010010 dest jump) :=
  decodeWord_cWord .regA 0b010010#6 dest jump

theorem comp0010100 (dest : Dest) (jump : Jump) : Statement (.comp0010100 dest jump) :=
  decodeWord_cWord .regA 0b010100#6 dest jump

theorem comp0010110 (dest : Dest) (jump : Jump) : Statement (.comp0010110 dest jump) :=
  decodeWord_cWord .regA 0b010110#6 dest jump

theorem comp0010111 (dest : Dest) (jump : Jump) : Statement (.comp0010111 dest jump) :=
  decodeWord_cWord .regA 0b010111#6 dest jump

theorem comp0011000 (dest : Dest) (jump : Jump) : Statement (.comp0011000 dest jump) :=
  decodeWord_cWord .regA 0b011000#6 dest jump

theorem comp0011001 (dest : Dest) (jump : Jump) : Statement (.comp0011001 dest jump) :=
  decodeWord_cWord .regA 0b011001#6 dest jump

theorem comp0011010 (dest : Dest) (jump : Jump) : Statement (.comp0011010 dest jump) :=
  decodeWord_cWord .regA 0b011010#6 dest jump

theorem comp0011011 (dest : Dest) (jump : Jump) : Statement (.comp0011011 dest jump) :=
  decodeWord_cWord .regA 0b011011#6 dest jump

theorem comp0011100 (dest : Dest) (jump : Jump) : Statement (.comp0011100 dest jump) :=
  decodeWord_cWord .regA 0b011100#6 dest jump

theorem comp0011101 (dest : Dest) (jump : Jump) : Statement (.comp0011101 dest jump) :=
  decodeWord_cWord .regA 0b011101#6 dest jump

theorem comp0011110 (dest : Dest) (jump : Jump) : Statement (.comp0011110 dest jump) :=
  decodeWord_cWord .regA 0b011110#6 dest jump

theorem comp0100000 (dest : Dest) (jump : Jump) : Statement (.comp0100000 dest jump) :=
  decodeWord_cWord .regA 0b100000#6 dest jump

theorem comp0100001 (dest : Dest) (jump : Jump) : Statement (.comp0100001 dest jump) :=
  decodeWord_cWord .regA 0b100001#6 dest jump

theorem comp0100010 (dest : Dest) (jump : Jump) : Statement (.comp0100010 dest jump) :=
  decodeWord_cWord .regA 0b100010#6 dest jump

theorem comp0100011 (dest : Dest) (jump : Jump) : Statement (.comp0100011 dest jump) :=
  decodeWord_cWord .regA 0b100011#6 dest jump

theorem comp0100100 (dest : Dest) (jump : Jump) : Statement (.comp0100100 dest jump) :=
  decodeWord_cWord .regA 0b100100#6 dest jump

theorem comp0100101 (dest : Dest) (jump : Jump) : Statement (.comp0100101 dest jump) :=
  decodeWord_cWord .regA 0b100101#6 dest jump

theorem comp0100110 (dest : Dest) (jump : Jump) : Statement (.comp0100110 dest jump) :=
  decodeWord_cWord .regA 0b100110#6 dest jump

theorem comp0100111 (dest : Dest) (jump : Jump) : Statement (.comp0100111 dest jump) :=
  decodeWord_cWord .regA 0b100111#6 dest jump

theorem comp0101000 (dest : Dest) (jump : Jump) : Statement (.comp0101000 dest jump) :=
  decodeWord_cWord .regA 0b101000#6 dest jump

theorem comp0101001 (dest : Dest) (jump : Jump) : Statement (.comp0101001 dest jump) :=
  decodeWord_cWord .regA 0b101001#6 dest jump

theorem comp0101011 (dest : Dest) (jump : Jump) : Statement (.comp0101011 dest jump) :=
  decodeWord_cWord .regA 0b101011#6 dest jump

theorem comp0101100 (dest : Dest) (jump : Jump) : Statement (.comp0101100 dest jump) :=
  decodeWord_cWord .regA 0b101100#6 dest jump

theorem comp0101101 (dest : Dest) (jump : Jump) : Statement (.comp0101101 dest jump) :=
  decodeWord_cWord .regA 0b101101#6 dest jump

theorem comp0101110 (dest : Dest) (jump : Jump) : Statement (.comp0101110 dest jump) :=
  decodeWord_cWord .regA 0b101110#6 dest jump

theorem comp0101111 (dest : Dest) (jump : Jump) : Statement (.comp0101111 dest jump) :=
  decodeWord_cWord .regA 0b101111#6 dest jump

theorem comp0110100 (dest : Dest) (jump : Jump) : Statement (.comp0110100 dest jump) :=
  decodeWord_cWord .regA 0b110100#6 dest jump

theorem comp0110101 (dest : Dest) (jump : Jump) : Statement (.comp0110101 dest jump) :=
  decodeWord_cWord .regA 0b110101#6 dest jump

theorem comp0110110 (dest : Dest) (jump : Jump) : Statement (.comp0110110 dest jump) :=
  decodeWord_cWord .regA 0b110110#6 dest jump

theorem comp0111000 (dest : Dest) (jump : Jump) : Statement (.comp0111000 dest jump) :=
  decodeWord_cWord .regA 0b111000#6 dest jump

theorem comp0111001 (dest : Dest) (jump : Jump) : Statement (.comp0111001 dest jump) :=
  decodeWord_cWord .regA 0b111001#6 dest jump

theorem comp0111011 (dest : Dest) (jump : Jump) : Statement (.comp0111011 dest jump) :=
  decodeWord_cWord .regA 0b111011#6 dest jump

theorem comp0111100 (dest : Dest) (jump : Jump) : Statement (.comp0111100 dest jump) :=
  decodeWord_cWord .regA 0b111100#6 dest jump

theorem comp0111101 (dest : Dest) (jump : Jump) : Statement (.comp0111101 dest jump) :=
  decodeWord_cWord .regA 0b111101#6 dest jump

theorem comp0111110 (dest : Dest) (jump : Jump) : Statement (.comp0111110 dest jump) :=
  decodeWord_cWord .regA 0b111110#6 dest jump

theorem comp1000001 (dest : Dest) (jump : Jump) : Statement (.comp1000001 dest jump) :=
  decodeWord_cWord .mem 0b000001#6 dest jump

theorem comp1000011 (dest : Dest) (jump : Jump) : Statement (.comp1000011 dest jump) :=
  decodeWord_cWord .mem 0b000011#6 dest jump

theorem comp1000100 (dest : Dest) (jump : Jump) : Statement (.comp1000100 dest jump) :=
  decodeWord_cWord .mem 0b000100#6 dest jump

theorem comp1000101 (dest : Dest) (jump : Jump) : Statement (.comp1000101 dest jump) :=
  decodeWord_cWord .mem 0b000101#6 dest jump

theorem comp1000110 (dest : Dest) (jump : Jump) : Statement (.comp1000110 dest jump) :=
  decodeWord_cWord .mem 0b000110#6 dest jump

theorem comp1001000 (dest : Dest) (jump : Jump) : Statement (.comp1001000 dest jump) :=
  decodeWord_cWord .mem 0b001000#6 dest jump

theorem comp1001001 (dest : Dest) (jump : Jump) : Statement (.comp1001001 dest jump) :=
  decodeWord_cWord .mem 0b001001#6 dest jump

theorem comp1001010 (dest : Dest) (jump : Jump) : Statement (.comp1001010 dest jump) :=
  decodeWord_cWord .mem 0b001010#6 dest jump

theorem comp1001011 (dest : Dest) (jump : Jump) : Statement (.comp1001011 dest jump) :=
  decodeWord_cWord .mem 0b001011#6 dest jump

theorem comp1001100 (dest : Dest) (jump : Jump) : Statement (.comp1001100 dest jump) :=
  decodeWord_cWord .mem 0b001100#6 dest jump

theorem comp1001101 (dest : Dest) (jump : Jump) : Statement (.comp1001101 dest jump) :=
  decodeWord_cWord .mem 0b001101#6 dest jump

theorem comp1001110 (dest : Dest) (jump : Jump) : Statement (.comp1001110 dest jump) :=
  decodeWord_cWord .mem 0b001110#6 dest jump

theorem comp1001111 (dest : Dest) (jump : Jump) : Statement (.comp1001111 dest jump) :=
  decodeWord_cWord .mem 0b001111#6 dest jump

theorem comp1010000 (dest : Dest) (jump : Jump) : Statement (.comp1010000 dest jump) :=
  decodeWord_cWord .mem 0b010000#6 dest jump

theorem comp1010001 (dest : Dest) (jump : Jump) : Statement (.comp1010001 dest jump) :=
  decodeWord_cWord .mem 0b010001#6 dest jump

theorem comp1010010 (dest : Dest) (jump : Jump) : Statement (.comp1010010 dest jump) :=
  decodeWord_cWord .mem 0b010010#6 dest jump

theorem comp1010100 (dest : Dest) (jump : Jump) : Statement (.comp1010100 dest jump) :=
  decodeWord_cWord .mem 0b010100#6 dest jump

theorem comp1010110 (dest : Dest) (jump : Jump) : Statement (.comp1010110 dest jump) :=
  decodeWord_cWord .mem 0b010110#6 dest jump

theorem comp1010111 (dest : Dest) (jump : Jump) : Statement (.comp1010111 dest jump) :=
  decodeWord_cWord .mem 0b010111#6 dest jump

theorem comp1011000 (dest : Dest) (jump : Jump) : Statement (.comp1011000 dest jump) :=
  decodeWord_cWord .mem 0b011000#6 dest jump

theorem comp1011001 (dest : Dest) (jump : Jump) : Statement (.comp1011001 dest jump) :=
  decodeWord_cWord .mem 0b011001#6 dest jump

theorem comp1011010 (dest : Dest) (jump : Jump) : Statement (.comp1011010 dest jump) :=
  decodeWord_cWord .mem 0b011010#6 dest jump

theorem comp1011011 (dest : Dest) (jump : Jump) : Statement (.comp1011011 dest jump) :=
  decodeWord_cWord .mem 0b011011#6 dest jump

theorem comp1011100 (dest : Dest) (jump : Jump) : Statement (.comp1011100 dest jump) :=
  decodeWord_cWord .mem 0b011100#6 dest jump

theorem comp1011101 (dest : Dest) (jump : Jump) : Statement (.comp1011101 dest jump) :=
  decodeWord_cWord .mem 0b011101#6 dest jump

theorem comp1011110 (dest : Dest) (jump : Jump) : Statement (.comp1011110 dest jump) :=
  decodeWord_cWord .mem 0b011110#6 dest jump

theorem comp1011111 (dest : Dest) (jump : Jump) : Statement (.comp1011111 dest jump) :=
  decodeWord_cWord .mem 0b011111#6 dest jump

theorem comp1100000 (dest : Dest) (jump : Jump) : Statement (.comp1100000 dest jump) :=
  decodeWord_cWord .mem 0b100000#6 dest jump

theorem comp1100001 (dest : Dest) (jump : Jump) : Statement (.comp1100001 dest jump) :=
  decodeWord_cWord .mem 0b100001#6 dest jump

theorem comp1100010 (dest : Dest) (jump : Jump) : Statement (.comp1100010 dest jump) :=
  decodeWord_cWord .mem 0b100010#6 dest jump

theorem comp1100011 (dest : Dest) (jump : Jump) : Statement (.comp1100011 dest jump) :=
  decodeWord_cWord .mem 0b100011#6 dest jump

theorem comp1100100 (dest : Dest) (jump : Jump) : Statement (.comp1100100 dest jump) :=
  decodeWord_cWord .mem 0b100100#6 dest jump

theorem comp1100101 (dest : Dest) (jump : Jump) : Statement (.comp1100101 dest jump) :=
  decodeWord_cWord .mem 0b100101#6 dest jump

theorem comp1100110 (dest : Dest) (jump : Jump) : Statement (.comp1100110 dest jump) :=
  decodeWord_cWord .mem 0b100110#6 dest jump

theorem comp1100111 (dest : Dest) (jump : Jump) : Statement (.comp1100111 dest jump) :=
  decodeWord_cWord .mem 0b100111#6 dest jump

theorem comp1101000 (dest : Dest) (jump : Jump) : Statement (.comp1101000 dest jump) :=
  decodeWord_cWord .mem 0b101000#6 dest jump

theorem comp1101001 (dest : Dest) (jump : Jump) : Statement (.comp1101001 dest jump) :=
  decodeWord_cWord .mem 0b101001#6 dest jump

theorem comp1101010 (dest : Dest) (jump : Jump) : Statement (.comp1101010 dest jump) :=
  decodeWord_cWord .mem 0b101010#6 dest jump

theorem comp1101011 (dest : Dest) (jump : Jump) : Statement (.comp1101011 dest jump) :=
  decodeWord_cWord .mem 0b101011#6 dest jump

theorem comp1101100 (dest : Dest) (jump : Jump) : Statement (.comp1101100 dest jump) :=
  decodeWord_cWord .mem 0b101100#6 dest jump

theorem comp1101101 (dest : Dest) (jump : Jump) : Statement (.comp1101101 dest jump) :=
  decodeWord_cWord .mem 0b101101#6 dest jump

theorem comp1101110 (dest : Dest) (jump : Jump) : Statement (.comp1101110 dest jump) :=
  decodeWord_cWord .mem 0b101110#6 dest jump

theorem comp1101111 (dest : Dest) (jump : Jump) : Statement (.comp1101111 dest jump) :=
  decodeWord_cWord .mem 0b101111#6 dest jump

theorem comp1110100 (dest : Dest) (jump : Jump) : Statement (.comp1110100 dest jump) :=
  decodeWord_cWord .mem 0b110100#6 dest jump

theorem comp1110101 (dest : Dest) (jump : Jump) : Statement (.comp1110101 dest jump) :=
  decodeWord_cWord .mem 0b110101#6 dest jump

theorem comp1110110 (dest : Dest) (jump : Jump) : Statement (.comp1110110 dest jump) :=
  decodeWord_cWord .mem 0b110110#6 dest jump

theorem comp1111000 (dest : Dest) (jump : Jump) : Statement (.comp1111000 dest jump) :=
  decodeWord_cWord .mem 0b111000#6 dest jump

theorem comp1111001 (dest : Dest) (jump : Jump) : Statement (.comp1111001 dest jump) :=
  decodeWord_cWord .mem 0b111001#6 dest jump

theorem comp1111010 (dest : Dest) (jump : Jump) : Statement (.comp1111010 dest jump) :=
  decodeWord_cWord .mem 0b111010#6 dest jump

theorem comp1111011 (dest : Dest) (jump : Jump) : Statement (.comp1111011 dest jump) :=
  decodeWord_cWord .mem 0b111011#6 dest jump

theorem comp1111100 (dest : Dest) (jump : Jump) : Statement (.comp1111100 dest jump) :=
  decodeWord_cWord .mem 0b111100#6 dest jump

theorem comp1111101 (dest : Dest) (jump : Jump) : Statement (.comp1111101 dest jump) :=
  decodeWord_cWord .mem 0b111101#6 dest jump

theorem comp1111110 (dest : Dest) (jump : Jump) : Statement (.comp1111110 dest jump) :=
  decodeWord_cWord .mem 0b111110#6 dest jump

theorem comp1111111 (dest : Dest) (jump : Jump) : Statement (.comp1111111 dest jump) :=
  decodeWord_cWord .mem 0b111111#6 dest jump

theorem malformed00 (y : YSource) (ctl : AluCtl) (dest : Dest) (jump : Jump) :
    Statement (.malformed00 y ctl dest jump) :=
  decodeWord_malformed00 y ctl dest jump

theorem malformed01 (y : YSource) (ctl : AluCtl) (dest : Dest) (jump : Jump) :
    Statement (.malformed01 y ctl dest jump) :=
  decodeWord_malformed01 y ctl dest jump

theorem malformed10 (y : YSource) (ctl : AluCtl) (dest : Dest) (jump : Jump) :
    Statement (.malformed10 y ctl dest jump) :=
  decodeWord_malformed10 y ctl dest jump

end Sys2Proof.Laws.RoundTrip
end

