-- ==== Sys2Proof/Tests/Slice0.lean ====
section
/-! SUPPORT. Small tests, their expected values from the spec's encodings (30_encoding.md, 42_c_instruction_comp.md,
opcode_table.json) and its worked vectors (95_test_vectors.md), and the witnesses for the statements' hypotheses. -/

namespace Sys2Proof.Tests

open Sys2Proof.Machine

/-! ## Helpers -/

/-- The next state, if there is one. -/
def after : StepOutcome → Option State
  | .next t => some t
  | .fault _ => none
  | .refused _ => none

/-- A state with given registers and RAM at creation otherwise. -/
def st (a d pc : Word) (ram : Memory) : State := { State.reset with a := a, d := d, pc := pc, ram := ram }

/-- One C or A word run on a state, without a fetch. -/
def run (w : Word) (s : State) : Option State := after (exec (decodeWord w) s)

/-- A, D and pc of the next state. -/
def regs (r : Option State) : Option (Word × Word × Word) := r.map (fun t => (t.a, t.d, t.pc))

/-! ## Decoding: every row of the opcode table, its word with dest = 100 and jump = 110 -/

/-- dest = 100. -/
def destA : Dest := ⟨true, false, false⟩

/-- jump = 110. -/
def jumpLE : Jump := ⟨true, true, false⟩

/-- The 28 named rows. -/
theorem test_decode_named : ([(0xEAA6, .zero destA jumpLE), (0xEFE6, .one destA jumpLE), (0xEEA6, .negOne destA jumpLE),
    (0xE326, .passD destA jumpLE), (0xEC26, .passA destA jumpLE), (0xFC26, .passM destA jumpLE),
    (0xE366, .notD destA jumpLE), (0xEC66, .notA destA jumpLE), (0xFC66, .notM destA jumpLE),
    (0xE3E6, .negD destA jumpLE), (0xECE6, .negA destA jumpLE), (0xFCE6, .negM destA jumpLE),
    (0xE7E6, .incD destA jumpLE), (0xEDE6, .incA destA jumpLE), (0xFDE6, .incM destA jumpLE),
    (0xE3A6, .decD destA jumpLE), (0xECA6, .decA destA jumpLE), (0xFCA6, .decM destA jumpLE),
    (0xE0A6, .dPlusA destA jumpLE), (0xF0A6, .dPlusM destA jumpLE), (0xE4E6, .dMinusA destA jumpLE),
    (0xF4E6, .dMinusM destA jumpLE), (0xE1E6, .aMinusD destA jumpLE), (0xF1E6, .mMinusD destA jumpLE),
    (0xE026, .dAndA destA jumpLE), (0xF026, .dAndM destA jumpLE), (0xE566, .dOrA destA jumpLE),
    (0xF566, .dOrM destA jumpLE)] :
    List (Word × Instr)).all (fun p => decodeWord p.1 == p.2 && encode p.2 == p.1) = true := by decide

/-- Unnamed rows, part 1 of 4. -/
theorem test_decode_unnamed_1 : ([(0xE066, .comp0000001 destA jumpLE), (0xE0E6, .comp0000011 destA jumpLE), (0xE126, .comp0000100 destA jumpLE),
    (0xE166, .comp0000101 destA jumpLE), (0xE1A6, .comp0000110 destA jumpLE),
    (0xE226, .comp0001000 destA jumpLE), (0xE266, .comp0001001 destA jumpLE),
    (0xE2A6, .comp0001010 destA jumpLE), (0xE2E6, .comp0001011 destA jumpLE),
    (0xE426, .comp0010000 destA jumpLE), (0xE466, .comp0010001 destA jumpLE),
    (0xE4A6, .comp0010010 destA jumpLE), (0xE526, .comp0010100 destA jumpLE),
    (0xE5A6, .comp0010110 destA jumpLE), (0xE5E6, .comp0010111 destA jumpLE),
    (0xE626, .comp0011000 destA jumpLE), (0xE666, .comp0011001 destA jumpLE),
    (0xE6A6, .comp0011010 destA jumpLE), (0xE6E6, .comp0011011 destA jumpLE),
    (0xE726, .comp0011100 destA jumpLE), (0xE766, .comp0011101 destA jumpLE),
    (0xE7A6, .comp0011110 destA jumpLE), (0xE826, .comp0100000 destA jumpLE),
    (0xE866, .comp0100001 destA jumpLE), (0xE8A6, .comp0100010 destA jumpLE)] :
    List (Word × Instr)).all (fun p => decodeWord p.1 == p.2 && encode p.2 == p.1) = true := by decide

/-- Unnamed rows, part 2 of 4. -/
theorem test_decode_unnamed_2 : ([(0xE8E6, .comp0100011 destA jumpLE), (0xE926, .comp0100100 destA jumpLE), (0xE966, .comp0100101 destA jumpLE),
    (0xE9A6, .comp0100110 destA jumpLE), (0xE9E6, .comp0100111 destA jumpLE),
    (0xEA26, .comp0101000 destA jumpLE), (0xEA66, .comp0101001 destA jumpLE),
    (0xEAE6, .comp0101011 destA jumpLE), (0xEB26, .comp0101100 destA jumpLE),
    (0xEB66, .comp0101101 destA jumpLE), (0xEBA6, .comp0101110 destA jumpLE),
    (0xEBE6, .comp0101111 destA jumpLE), (0xED26, .comp0110100 destA jumpLE),
    (0xED66, .comp0110101 destA jumpLE), (0xEDA6, .comp0110110 destA jumpLE),
    (0xEE26, .comp0111000 destA jumpLE), (0xEE66, .comp0111001 destA jumpLE),
    (0xEEE6, .comp0111011 destA jumpLE), (0xEF26, .comp0111100 destA jumpLE),
    (0xEF66, .comp0111101 destA jumpLE), (0xEFA6, .comp0111110 destA jumpLE),
    (0xF066, .comp1000001 destA jumpLE), (0xF0E6, .comp1000011 destA jumpLE),
    (0xF126, .comp1000100 destA jumpLE), (0xF166, .comp1000101 destA jumpLE)] :
    List (Word × Instr)).all (fun p => decodeWord p.1 == p.2 && encode p.2 == p.1) = true := by decide

/-- Unnamed rows, part 3 of 4. -/
theorem test_decode_unnamed_3 : ([(0xF1A6, .comp1000110 destA jumpLE), (0xF226, .comp1001000 destA jumpLE), (0xF266, .comp1001001 destA jumpLE),
    (0xF2A6, .comp1001010 destA jumpLE), (0xF2E6, .comp1001011 destA jumpLE),
    (0xF326, .comp1001100 destA jumpLE), (0xF366, .comp1001101 destA jumpLE),
    (0xF3A6, .comp1001110 destA jumpLE), (0xF3E6, .comp1001111 destA jumpLE),
    (0xF426, .comp1010000 destA jumpLE), (0xF466, .comp1010001 destA jumpLE),
    (0xF4A6, .comp1010010 destA jumpLE), (0xF526, .comp1010100 destA jumpLE),
    (0xF5A6, .comp1010110 destA jumpLE), (0xF5E6, .comp1010111 destA jumpLE),
    (0xF626, .comp1011000 destA jumpLE), (0xF666, .comp1011001 destA jumpLE),
    (0xF6A6, .comp1011010 destA jumpLE), (0xF6E6, .comp1011011 destA jumpLE),
    (0xF726, .comp1011100 destA jumpLE), (0xF766, .comp1011101 destA jumpLE),
    (0xF7A6, .comp1011110 destA jumpLE), (0xF7E6, .comp1011111 destA jumpLE),
    (0xF826, .comp1100000 destA jumpLE), (0xF866, .comp1100001 destA jumpLE)] :
    List (Word × Instr)).all (fun p => decodeWord p.1 == p.2 && encode p.2 == p.1) = true := by decide

/-- Unnamed rows, part 4 of 4. -/
theorem test_decode_unnamed_4 : ([(0xF8A6, .comp1100010 destA jumpLE), (0xF8E6, .comp1100011 destA jumpLE), (0xF926, .comp1100100 destA jumpLE),
    (0xF966, .comp1100101 destA jumpLE), (0xF9A6, .comp1100110 destA jumpLE),
    (0xF9E6, .comp1100111 destA jumpLE), (0xFA26, .comp1101000 destA jumpLE),
    (0xFA66, .comp1101001 destA jumpLE), (0xFAA6, .comp1101010 destA jumpLE),
    (0xFAE6, .comp1101011 destA jumpLE), (0xFB26, .comp1101100 destA jumpLE),
    (0xFB66, .comp1101101 destA jumpLE), (0xFBA6, .comp1101110 destA jumpLE),
    (0xFBE6, .comp1101111 destA jumpLE), (0xFD26, .comp1110100 destA jumpLE),
    (0xFD66, .comp1110101 destA jumpLE), (0xFDA6, .comp1110110 destA jumpLE),
    (0xFE26, .comp1111000 destA jumpLE), (0xFE66, .comp1111001 destA jumpLE),
    (0xFEA6, .comp1111010 destA jumpLE), (0xFEE6, .comp1111011 destA jumpLE),
    (0xFF26, .comp1111100 destA jumpLE), (0xFF66, .comp1111101 destA jumpLE),
    (0xFFA6, .comp1111110 destA jumpLE), (0xFFE6, .comp1111111 destA jumpLE)] :
    List (Word × Instr)).all (fun p => decodeWord p.1 == p.2 && encode p.2 == p.1) = true := by decide

/-- The A row and the three malformed rows. -/
theorem test_decode_other : ([(0b0000000000000000, .atValue 0), (0b0111111111111111, .atValue 32767),
    (0b0101010101010101, .atValue 0b101010101010101),
    (0b1001101010001110, .malformed00 .mem ⟨true, false, true, false, true, false⟩ ⟨false, false, true⟩ jumpLE),
    (0b1010010101100110, .malformed01 .regA ⟨false, true, false, true, false, true⟩ destA jumpLE),
    (0b1101110000010001, .malformed10 .mem ⟨true, true, false, false, false, false⟩ ⟨false, true, false⟩
      ⟨false, false, true⟩)] :
    List (Word × Instr)).all (fun p => decodeWord p.1 == p.2 && encode p.2 == p.1) = true := by decide

/-- The table's numbering of an instruction's bits gives the same instruction, and no other length has one. -/
theorem test_decodeTableWord : decodeTableWord 16 0xE308 = some (.passD ⟨false, false, true⟩ ⟨false, false, false⟩) ∧
    decodeTableWord 24 0xE308 = none := by decide

/-! ## Well-formedness -/

/-- Each malformed class is refused by the codec's check, and an unnamed code by the assembler's. -/
theorem test_wellFormed_refuses :
    (Instr.malformed00 .regA ⟨false, false, true, true, false, false⟩ destA jumpLE).wellFormed = false ∧
    (Instr.malformed01 .regA ⟨false, false, true, true, false, false⟩ destA jumpLE).wellFormed = false ∧
    (Instr.malformed10 .regA ⟨false, false, true, true, false, false⟩ destA jumpLE).wellFormed = false ∧
    (Instr.comp0000001 destA jumpLE).wellFormed = true ∧ (Instr.comp0000001 destA jumpLE).named = false := by decide

/-! ## The ALU: section 2 of 95_test_vectors.md, operands at the heads of its columns -/

/-- The operand pairs. -/
def operands : List (Word × Word) := [(0, 0), (0, 1), (1, 0), (1, 1), (0xFFFF, 0xFFFF), (0x7FFF, 1), (0x8000, 1),
  (0x7FFF, 0x8000), (0x8000, 0x8000), (0x1234, 0xFF)]

/-- The ALU on every pair gives the outputs, with the flags of them. -/
def aluRow (p : BitVec 6 × List Word) : Bool :=
  operands.map (fun q => alu q.1 q.2 (AluCtl.ofCode p.1)) ==
    p.2.map (fun w => ⟨w, w == 0, 0x8000 ≤ w.toNat⟩)

/-- ALU vectors, part 1 of 3. -/
theorem test_alu_vectors_1 : ([(0b101010, [0, 0, 0, 0, 0, 0, 0, 0, 0, 0]), (0b111111, [1, 1, 1, 1, 1, 1, 1, 1, 1, 1]),
    (0b111010, [0xFFFF, 0xFFFF, 0xFFFF, 0xFFFF, 0xFFFF, 0xFFFF, 0xFFFF, 0xFFFF, 0xFFFF, 0xFFFF]),
    (0b001100, [0, 0, 1, 1, 0xFFFF, 0x7FFF, 0x8000, 0x7FFF, 0x8000, 0x1234]),
    (0b110000, [0, 1, 0, 1, 0xFFFF, 1, 1, 0x8000, 0x8000, 0xFF]),
    (0b001101, [0xFFFF, 0xFFFF, 0xFFFE, 0xFFFE, 0, 0x8000, 0x7FFF, 0x8000, 0x7FFF, 0xEDCB]),
    (0b110001, [0xFFFF, 0xFFFE, 0xFFFF, 0xFFFE, 0, 0xFFFE, 0xFFFE, 0x7FFF, 0x7FFF, 0xFF00]),
    (0b001111, [0, 0, 0xFFFF, 0xFFFF, 1, 0x8001, 0x8000, 0x8001, 0x8000, 0xEDCC]),
    (0b110011, [0, 0xFFFF, 0, 0xFFFF, 1, 0xFFFF, 0xFFFF, 0x8000, 0x8000, 0xFF01]),
    (0b011111, [1, 1, 2, 2, 0, 0x8000, 0x8001, 0x8000, 0x8001, 0x1235])] :
    List (BitVec 6 × List Word)).all aluRow = true := by decide

/-- ALU vectors, part 2 of 3. -/
theorem test_alu_vectors_2 : ([(0b110111, [1, 2, 1, 2, 0, 2, 2, 0x8001, 0x8001, 0x100]),
    (0b001110, [0xFFFF, 0xFFFF, 0, 0, 0xFFFE, 0x7FFE, 0x7FFF, 0x7FFE, 0x7FFF, 0x1233]),
    (0b110010, [0xFFFF, 0, 0xFFFF, 0, 0xFFFE, 0, 0, 0x7FFF, 0x7FFF, 0xFE]),
    (0b000010, [0, 1, 1, 2, 0xFFFE, 0x8000, 0x8001, 0xFFFF, 0, 0x1333]),
    (0b010011, [0, 0xFFFF, 1, 0, 0, 0x7FFE, 0x7FFF, 0xFFFF, 0, 0x1135]),
    (0b000111, [0, 1, 0xFFFF, 0, 0, 0x8002, 0x8001, 1, 0, 0xEECB]),
    (0b000000, [0, 0, 0, 1, 0xFFFF, 1, 0, 0, 0x8000, 0x34]),
    (0b010101, [0, 1, 1, 1, 0xFFFF, 0x7FFF, 0x8001, 0xFFFF, 0x8000, 0x12FF]),
    (0b000001, [0xFFFF, 0xFFFF, 0xFFFF, 0xFFFE, 0, 0xFFFE, 0xFFFF, 0xFFFF, 0x7FFF, 0xFFCB]),
    (0b010100, [0xFFFF, 0xFFFE, 0xFFFE, 0xFFFE, 0, 0x8000, 0x7FFE, 0, 0x7FFF, 0xED00])] :
    List (BitVec 6 × List Word)).all aluRow = true := by decide

/-- ALU vectors, part 3 of 3. -/
theorem test_alu_vectors_3 : ([(0b000100, [0, 0, 1, 0, 0, 0x7FFE, 0x8000, 0x7FFF, 0, 0x1200]),
    (0b010000, [0, 1, 0, 0, 0, 0, 1, 0x8000, 0, 0xCB]),
    (0b010111, [1, 2, 2, 3, 0xFFFF, 0x8001, 0x8002, 0, 1, 0x1334]),
    (0b000110, [0xFFFF, 0xFFFE, 0, 0xFFFF, 0xFFFF, 0x7FFD, 0x7FFE, 0xFFFE, 0xFFFF, 0x1134]),
    (0b111110, [0xFFFE, 0xFFFE, 0xFFFE, 0xFFFE, 0xFFFE, 0xFFFE, 0xFFFE, 0xFFFE, 0xFFFE, 0xFFFE]),
    (0b011110, [0xFFFE, 0xFFFE, 0xFFFD, 0xFFFD, 0xFFFF, 0x7FFF, 0x7FFE, 0x7FFF, 0x7FFE, 0xEDCA]),
    (0b001010, [0, 0, 1, 1, 0xFFFF, 0x7FFF, 0x8000, 0x7FFF, 0x8000, 0x1234]),
    (0b100110, [0xFFFF, 0xFFFE, 0xFFFF, 0xFFFE, 0, 0xFFFE, 0xFFFE, 0x7FFF, 0x7FFF, 0xFF00]),
    (0b101111, [0, 0, 0, 0, 0, 0, 0, 0, 0, 0]), (0b011000, [0, 0, 0, 0, 0, 0, 0, 0, 0, 0])] :
    List (BitVec 6 × List Word)).all aluRow = true := by decide

/-! ## The unnamed computations: the sample column of rule R241, D = 5 and A or M = 3, stored in D -/

/-- The word with dest = D, run with D = 5, A = 3 and RAM[3] = 3, leaves the sample in D. -/
def sample (p : Word × Word) : Bool := regs (run (p.1 ||| 0x10) (st 3 5 0x20 [(3, 3)])) == some (3, p.2, 0x21)

/-- Samples, part 1 of 2. -/
theorem test_unnamed_samples_1 : ([(0xE040, 0xFFFE), (0xE0C0, 0xFFF7), (0xE100, 4), (0xE140, 0xFFFB), (0xE180, 1), (0xE200, 0), (0xE240, 0xFFFF),
    (0xE280, 5), (0xE2C0, 0xFFFA), (0xE400, 2), (0xE440, 0xFFFD), (0xE480, 0xFFFD), (0xE500, 0xFFF8),
    (0xE580, 0xFFF6), (0xE5C0, 9), (0xE600, 0), (0xE640, 0xFFFF), (0xE680, 0xFFFA), (0xE6C0, 5),
    (0xE700, 0xFFFA), (0xE740, 5), (0xE780, 0xFFF9), (0xE800, 0), (0xE840, 0xFFFF), (0xE880, 3),
    (0xE8C0, 0xFFFC), (0xE900, 0), (0xE940, 0xFFFF), (0xE980, 0xFFFC), (0xE9C0, 3), (0xEA00, 0),
    (0xEA40, 0xFFFF), (0xEAC0, 0xFFFF), (0xEB00, 0), (0xEB40, 0xFFFF), (0xEB80, 0xFFFF), (0xEBC0, 0),
    (0xED00, 0xFFFC), (0xED40, 3), (0xED80, 0xFFFB), (0xEE00, 0), (0xEE40, 0xFFFF), (0xEEC0, 0),
    (0xEF00, 0xFFFF), (0xEF40, 0), (0xEF80, 0xFFFE), (0xF040, 0xFFFE), (0xF0C0, 0xFFF7), (0xF100, 4),
    (0xF140, 0xFFFB)] :
    List (Word × Word)).all sample = true := by decide

/-- Samples, part 2 of 2. -/
theorem test_unnamed_samples_2 : ([(0xF180, 1), (0xF200, 0), (0xF240, 0xFFFF), (0xF280, 5), (0xF2C0, 0xFFFA), (0xF300, 5), (0xF340, 0xFFFA),
    (0xF380, 4), (0xF3C0, 0xFFFB), (0xF400, 2), (0xF440, 0xFFFD), (0xF480, 0xFFFD), (0xF500, 0xFFF8),
    (0xF580, 0xFFF6), (0xF5C0, 9), (0xF600, 0), (0xF640, 0xFFFF), (0xF680, 0xFFFA), (0xF6C0, 5),
    (0xF700, 0xFFFA), (0xF740, 5), (0xF780, 0xFFF9), (0xF7C0, 6), (0xF800, 0), (0xF840, 0xFFFF), (0xF880, 3),
    (0xF8C0, 0xFFFC), (0xF900, 0), (0xF940, 0xFFFF), (0xF980, 0xFFFC), (0xF9C0, 3), (0xFA00, 0),
    (0xFA40, 0xFFFF), (0xFA80, 0), (0xFAC0, 0xFFFF), (0xFB00, 0), (0xFB40, 0xFFFF), (0xFB80, 0xFFFF),
    (0xFBC0, 0), (0xFD00, 0xFFFC), (0xFD40, 3), (0xFD80, 0xFFFB), (0xFE00, 0), (0xFE40, 0xFFFF),
    (0xFE80, 0xFFFF), (0xFEC0, 0), (0xFF00, 0xFFFF), (0xFF40, 0), (0xFF80, 0xFFFE), (0xFFC0, 1)] :
    List (Word × Word)).all sample = true := by decide

/-! ## The named computations: section 4 of 95_test_vectors.md, `D=comp` from states S1 and S2 -/

/-- The word leaves the two outputs in D from S1 and S2, with A and memory as they were. -/
def compRow (p : Word × Word × Word) : Bool :=
  run p.1 (st 5 3 0x20 [(5, 0xFFFE)]) == some (st 5 p.2.1 0x21 [(5, 0xFFFE)]) &&
    run p.1 (st 0x8000 0x7FFF 0x20 [(0, 1)]) == some (st 0x8000 p.2.2 0x21 [(0, 1)])

/-- The 28 named computations. -/
theorem test_named_vectors : ([(0xEA90, 0, 0), (0xEFD0, 1, 1), (0xEE90, 0xFFFF, 0xFFFF), (0xE310, 3, 0x7FFF), (0xEC10, 5, 0x8000),
    (0xFC10, 0xFFFE, 1), (0xE350, 0xFFFC, 0x8000), (0xEC50, 0xFFFA, 0x7FFF), (0xFC50, 1, 0xFFFE),
    (0xE3D0, 0xFFFD, 0x8001), (0xECD0, 0xFFFB, 0x8000), (0xFCD0, 2, 0xFFFF), (0xE7D0, 4, 0x8000),
    (0xEDD0, 6, 0x8001), (0xFDD0, 0xFFFF, 2), (0xE390, 2, 0x7FFE), (0xEC90, 4, 0x7FFF), (0xFC90, 0xFFFD, 0),
    (0xE090, 8, 0xFFFF), (0xF090, 1, 0x8000), (0xE4D0, 0xFFFE, 0xFFFF), (0xF4D0, 5, 0x7FFE), (0xE1D0, 2, 1),
    (0xF1D0, 0xFFFB, 0x8002), (0xE010, 1, 0), (0xF010, 2, 1), (0xE550, 7, 0xFFFF), (0xF550, 0xFFFF, 0x7FFF)] :
    List (Word × Word × Word)).all compRow = true := by decide

/-- Source and destination the same, and read-modify-write of M, from S1. -/
theorem test_source_is_destination : ([(0xE7D0, 5, 4, 0xFFFE), (0xECA0, 4, 3, 0xFFFE), (0xFDC8, 5, 3, 0xFFFF), (0xF088, 5, 3, 1),
    (0xF4D0, 5, 5, 0xFFFE), (0xFCB8, 0xFFFD, 0xFFFD, 0xFFFD), (0xE0A0, 8, 3, 0xFFFE), (0xF010, 5, 2, 0xFFFE),
    (0xFC48, 5, 3, 1)] :
    List (Word × Word × Word × Word)).all (fun p => run p.1 (st 5 3 0x20 [(5, 0xFFFE)]) == some (st p.2.1 p.2.2.1 0x21 [(5, p.2.2.2)])) = true := by decide

/-! ## Destinations and jumps: sections 5 and 6 of 95_test_vectors.md -/

/-- `D+1` to each destination; the store goes to the old A. -/
theorem test_dest_vectors : ([(0xE7C0, 0x10, 0x41, 9), (0xE7C8, 0x10, 0x41, 0x42), (0xE7D0, 0x10, 0x42, 9), (0xE7D8, 0x10, 0x42, 0x42),
    (0xE7E0, 0x42, 0x41, 9), (0xE7E8, 0x42, 0x41, 0x42), (0xE7F0, 0x42, 0x42, 9), (0xE7F8, 0x42, 0x42, 0x42)] :
    List (Word × Word × Word × Word)).all (fun p => run p.1 (st 0x10 0x41 0x20 [(16, 9)]) == some (st p.2.1 p.2.2.1 0x21 [(16, p.2.2.2)])) = true := by decide

/-- `D` with each jump, D at the heads of the columns. -/
theorem test_jump_vectors : ([(0xE300, [0x21, 0x21, 0x21, 0x21, 0x21]), (0xE301, [0x21, 0x100, 0x100, 0x21, 0x21]),
    (0xE302, [0x100, 0x21, 0x21, 0x21, 0x21]), (0xE303, [0x100, 0x100, 0x100, 0x21, 0x21]),
    (0xE304, [0x21, 0x21, 0x21, 0x100, 0x100]), (0xE305, [0x21, 0x100, 0x100, 0x100, 0x100]),
    (0xE306, [0x100, 0x21, 0x21, 0x100, 0x100]), (0xE307, [0x100, 0x100, 0x100, 0x100, 0x100])] :
    List (Word × List Word)).all (fun p => ([0, 1, 0x7FFF, 0x8000, 0xFFFF] : List Word).map (fun d => (run p.1 (st 0x100 d 0x20 [])).map State.pc)
      == p.2.map some) = true := by decide

/-- Further jump vectors: target with bit 15 set, A written and jump, condition on the new value, overflow. -/
theorem test_jump_corners :
    regs (run 0xEA87 (st 0x8005 0 0x20 [])) = some (0x8005, 0, 0x8005) ∧
    regs (run 0xE327 (st 0x100 0x200 0x20 [])) = some (0x200, 0x200, 0x100) ∧
    regs (run 0xE391 (st 0x100 1 0x20 [])) = some (0x100, 0, 0x21) ∧
    regs (run 0xE391 (st 0x100 2 0x20 [])) = some (0x100, 1, 0x100) ∧
    regs (run 0xE7D4 (st 0x100 0x7FFF 0x20 [])) = some (0x100, 0x8000, 0x100) ∧
    regs (run 0xE4D1 (st 1 0x8000 0x20 [])) = some (1, 0x7FFF, 1) := by decide

/-- Reset beats a jump; a store and a jump share A; the visible address wraps. -/
theorem test_reset_store_wrap :
    regs (run 0xEA87 { st 0x100 0 0x20 [] with resetIn := true }) = some (0x100, 0, 0) ∧
    run 0xE30F (st 0x10 5 0x20 []) = some (st 0x10 5 0x10 [(16, 5)]) ∧
    regs (run 0xEA80 (st 0 0 0x7FFF [])) = some (0, 0, 0x8000) := by decide

/-! ## The A-instruction: section 3 of 95_test_vectors.md -/

/-- `@8191` sets every bit a C word would act on, and only A changes. -/
theorem test_atValue : run 0x1FFF (st 0x1234 0xABCD 0x10 [(0x1234, 0x5555)]) =
    some (st 0x1FFF 0xABCD 0x11 [(0x1234, 0x5555)]) := by decide

/-- The CPU's outputs in it: D on outM, no write, the old A, the address of the instruction. -/
theorem test_atValue_outputs : (cpuTick 0x5555 0x1FFF false (st 0x1234 0xABCD 0x10 [])).1 =
    { outM := 0xABCD, writeM := false, addressM := 0x1234, pc := 0x10 } := by decide

/-! ## The memory router: section 7 of 95_test_vectors.md -/

/-- `M=D` with D = 0xAA and KBD = 0x41, at an A: what RAM, Screen and Keyboard hold after. -/
def routed (a : Word) : Option (List (Nat × Word) × List (Nat × Word) × Word) :=
  (run 0xE308 { st a 0xAA 0x20 [] with kbd := 0x41 }).map (fun t => (t.ram, t.screen, t.kbd))

/-- Stores at the edges of the four regions, and with bit 15 of A set. -/
theorem test_router_stores :
    ([(0x3FFF, [(16383, 0xAA)], []), (0x4000, [], [(0, 0xAA)]), (0x5FFF, [], [(8191, 0xAA)]), (0x6000, [], []),
      (0x6001, [], []), (0x7FFF, [], []), (0xC000, [], [(0, 0xAA)]), (0xFFFF, [], [])] :
      List (Word × List (Nat × Word) × List (Nat × Word))).all
      (fun (a, ram, screen) => routed a == some (ram, screen, 0x41)) = true := by decide

/-- `D=M` at an A, with 0x777 at the edges of RAM and Screen and KBD = 0x41. -/
def loaded (a : Word) : Option Word :=
  (run 0xFC10 { st a 0xAA 0x20 [(16383, 0x777)] with
    screen := [(0, 0x777), (8191, 0x777)], kbd := 0x41 }).map State.d

/-- Loads at the edges of the four regions. -/
theorem test_router_loads :
    loaded 0x3FFF = some 0x777 ∧ loaded 0x4000 = some 0x777 ∧ loaded 0x5FFF = some 0x777 ∧
    loaded 0x6000 = some 0x41 ∧ loaded 0x6001 = some 0 ∧ loaded 0x7FFF = some 0 ∧ loaded 0xC000 = some 0x777 ∧
    loaded 0xFFFF = some 0 := by decide

/-- Storing the fill word removes the entry, so equal memories are equal lists. -/
theorem test_store_zero_removes : Memory.write [(3, 7), (5, 9), (8, 1)] 5 0 = [(3, 7), (8, 1)] ∧
    Memory.write [(3, 7), (8, 1)] 5 9 = [(3, 7), (5, 9), (8, 1)] ∧ Memory.wf 9 [(3, 7), (5, 9), (8, 1)] = true ∧
    Memory.wf 8 [(8, 1)] = false ∧ Memory.wf 9 [(5, 9), (3, 7)] = false ∧ Memory.wf 9 [(5, 0)] = false := by decide

/-! ## Reset and malformed words: section 8 of 95_test_vectors.md -/

/-- A tick with reset executes its instruction and goes to 0. -/
theorem test_reset_tick :
    run 0xE7D8 { st 0x10 5 0x20 [] with resetIn := true } =
      some { st 0x10 6 0 [(16, 6)] with resetIn := true } ∧
    run 0x0123 { st 0x10 5 0x20 [] with resetIn := true } = some { st 0x123 5 0 [] with resetIn := true } := by
  decide

/-- The malformed words act as `M=D`. -/
theorem test_malformed : ([0x8308, 0xA308, 0xC308, 0xE308] : List Word).all
    (fun w => run w (st 0x10 5 0x20 []) == some (st 0x10 5 0x21 [(16, 5)])) = true := by decide

/-- A step fetches at the low 15 bits of pc, closes loading, and agrees with the tick from the raw word. -/
theorem test_step_fetches : after (step { st 0x10 5 0x8003 [] with rom := [(3, 0xE308)] }) =
    some { st 0x10 5 0x8004 [(16, 5)] with rom := [(3, 0xE308)], loadOpen := false } ∧
    computerTick false { st 0x10 5 0x8003 [] with rom := [(3, 0xE308)] } =
      { st 0x10 5 0x8004 [(16, 5)] with rom := [(3, 0xE308)] } := by decide

/-- A word placed for the first step after reset is run by it. -/
theorem test_withFetchWord : (after (step (State.reset.withFetchWord 16 0xEFD0))).map State.d = some 1 := by decide

/-- Loading, and the two refusals of a second load and of a load after a tick. -/
theorem test_loadProgram : after (hostStep (.loadProgram [2, 0, 3]) State.reset) =
    some { State.reset with rom := [(0, 2), (2, 3)], loadOpen := false } ∧
    after (hostRun [.loadProgram [2], .loadProgram [3]] State.reset) = none ∧
    after (hostRun [.tick false, .loadProgram [3]] State.reset) = none := by decide

/-- `Computer.reset` clears what a run left and keeps the ROM. -/
theorem test_coldReset : after (hostStep .coldReset { st 4 5 6 [(0, 5)] with
    kbd := 0x41, screen := [(1, 2)], rom := [(0, 2)], loadOpen := false }) =
    some { State.reset with rom := [(0, 2)], loadOpen := false } := by decide

/-! ## The codec: section 9 of 95_test_vectors.md -/

/-- `decodeBinary` on a malformed word of each class, and `toAssembly` of words. -/
theorem test_decodeBinary : (decodeBinary 0x8000).toOption = none ∧ (decodeBinary 0xA308).toOption = none ∧
    (decodeBinary 0xDFFF).toOption = none ∧ (decodeBinary 0x7FFF).toOption = some (.atValue 32767) ∧
    (decodeBinary 0xE050).toOption = some (.comp0000001 ⟨false, true, false⟩ ⟨false, false, false⟩) := by decide

/-- The text of a word with an empty table. -/
def text (w : Word) : Option Text := assemblyOfWord w { binds := [], nextVar := 16 }

/-- The `toAssembly` column. -/
theorem test_toAssembly :
    text 0x0000 = some "@0".toList ∧ text 0x0015 = some "@21".toList ∧ text 0x7FFF = some "@32767".toList ∧
    text 0xE308 = some "M=D".toList ∧ text 0xEA87 = some "0;JMP".toList ∧ text 0xF4D0 = some "D=D-M".toList ∧
    text 0xFDC8 = some "M=M+1".toList ∧ text 0xE301 = some "D;JGT".toList ∧
    text 0xF57F = some "AMD=D|M;JMP".toList ∧ text 0xFFFF = none ∧ text 0xE050 = none := by decide

/-- The word a line decodes to, alone against the predefined table; none for a skip or an error. -/
def word (line : String) : Option Word :=
  (decodeAssembly line.toList SymbolTable.predefined).toOption.map (fun p => encode p.1)

/-- The error a line gives. -/
def lineError (line : String) : Option LineError :=
  match decodeAssembly line.toList SymbolTable.predefined with
  | .ok _ => none
  | .error e => some e

/-- The `decodeAssembly` rows that give a word. -/
theorem test_decodeAssembly :
    word "@21" = some 0x15 ∧ word "  @21   // count" = some 0x15 ∧ word "@32767" = some 0x7FFF ∧
    word "@R15" = some 0xF ∧ word "@SCREEN" = some 0x4000 ∧ word "@KBD" = some 0x6000 ∧ word "@foo" = some 0x10 ∧
    word "@SP" = some 0x10 ∧ word "D=D-M" = some 0xF4D0 ∧ word "0;JMP" = some 0xEA87 ∧
    word "AMD=D|M;JMP" = some 0xF57F ∧ word "D" = some 0xE300 := by decide

/-- The rows that give an error or a skip. -/
theorem test_decodeAssembly_errors :
    lineError "@32768" = some (.parse .outOfRange) ∧ lineError "D=A+D" = some (.parse .unknownMnemonic) ∧
    lineError "DM=1" = some (.parse .unknownMnemonic) ∧ lineError "D=M;JXX" = some (.parse .unknownMnemonic) ∧
    lineError "@1x" = some (.parse .malformedOperand) ∧ lineError "(LOOP)" = some .notInstruction ∧
    lineError "// comment" = some .notInstruction ∧ lineError "" = some .notInstruction := by decide

/-- Labels, variables and predefined names in one program, with a label used before its line. -/
theorem test_fromAssemblyArray :
    (programOf (fromAssemblyArray (["@first", "M=1", "@END", "0;JMP", "@second", "// note", "M=1", "@first", "M=0",
      "(END)", "@END", "0;JMP", "@R3", "@third"].map String.toList)).1).map encode =
    [0x0010, 0xEFC8, 0x0008, 0xEA87, 0x0011, 0xEFC8, 0x0010, 0xEA88, 0x0008, 0xEA87, 0x0003, 0x0012] := by decide

/-- A parse error is its line's answer, the line is counted for the label after it, and the other lines stand. -/
theorem test_fromAssemblyArray_error :
    (programOf (fromAssemblyArray (["D=1", "D=X", "(END)", "@END"].map String.toList)).1).map encode =
      [0xEFD0, 0x0002] ∧
    (fromAssemblyArray (["D=1", "D=X"].map String.toList)).1.map (fun p => (p.1, p.2.toOption.isSome)) =
      [(0, true), (1, false)] := by decide

/-! ## Witnesses: a concrete state and operands for the hypotheses of each statement that has some -/

/-- A state that runs `AM=M-1` (0xFCA8) at ROM[3] with a stack pointer in RAM[0] (section 10.3 of the vectors). -/
def popState : State := { st 0 6 3 [(0, 0x101)] with rom := [(3, 0xFCA8)], loadOpen := false }

theorem witness_inv : popState.Inv ∧ State.reset.Inv := ⟨⟨rfl, rfl, rfl⟩, ⟨rfl, rfl, rfl⟩⟩

theorem witness_WriteByRegion : popState.Inv ∧ (24575#15).toNat < 24576 ∧ 24576 ≤ (24576#15).toNat :=
  ⟨witness_inv.1, by decide, by decide⟩

theorem witness_PlacedWordRunsNext : popState.Inv := witness_inv.1

theorem witness_SymbolTableStaysWellFormed : SymbolTable.predefined.wf = true := by decide

theorem witness_DecodeBinaryByClass :
    (0x0000#16).getLsbD 15 = false ∧ (0x7FFF#16).getLsbD 15 = false ∧
    ((0xE000#16).getLsbD 15 = true ∧ (0xE000#16).extractLsb' 13 2 = 0b11#2) ∧
    ((0xFFFF#16).getLsbD 15 = true ∧ (0xFFFF#16).extractLsb' 13 2 = 0b11#2) ∧
    ((0x8000#16).getLsbD 15 = true ∧ (0x8000#16).extractLsb' 13 2 ≠ 0b11#2) ∧
    ((0xDFFF#16).getLsbD 15 = true ∧ (0xDFFF#16).extractLsb' 13 2 ≠ 0b11#2) ∧
    (decodeBinary 0xF4D0).toOption = some (.dMinusM ⟨false, true, false⟩ ⟨false, false, false⟩) := by decide

theorem witness_MalformedWordActsAsWellFormed : (0x8308#16).getLsbD 15 = true ∧
    decodeWord 0x8308 ≠ decodeWord (0x8308 ||| 0x6000) := by decide

/-- The regions' boundaries, for ReadByRegion, WriteByRegion and WriteTouchesOneStore. -/
theorem witness_regions :
    ((0#15).toNat < 16384 ∧ (16383#15).toNat < 16384) ∧
    (16384 ≤ (16384#15).toNat ∧ (16384#15).toNat < 24576) ∧
    (16384 ≤ (24575#15).toNat ∧ (24575#15).toNat < 24576) ∧
    (24576#15).toNat = 24576 ∧ 24576 < (24577#15).toNat ∧ 24576 < (32767#15).toNat := by decide

theorem witness_KeyboardAndVoidDoNotHoldStores : (0xE308#16).getLsbD 15 = true ∧ (0xE308#16).getLsbD 3 = true ∧
    (low15 (st 0x6000 5 0 []).a).toNat = 24576 ∧ 24576 < (low15 (st 0x6001 5 0 []).a).toNat ∧
    24576 < (low15 (st 0xFFFF 5 0 []).a).toNat := by decide

theorem witness_EntryPointIsRomZero : ∃ t, step { popState with resetIn := true } = .next t ∧ t.pc = 0 :=
  ⟨_, rfl, by decide⟩

/-- A load, then a run with ticks under both reset inputs, a poke and a key, for ColdResetRestoresTheLoadedState and
FetchReturnsTheLoadedWord. -/
theorem witness_load_and_run : ∃ s₀ t, hostStep (.loadProgram [2, 0xEC10, 0xE308]) State.reset = .next s₀ ∧
    hostRun [.tick false, .tick false, .poke 7 9, .setKeyboard 0x41, .tick true, .coldReset, .tick false] s₀ = .next t ∧
    t.a = 2 :=
  ⟨_, _, rfl, rfl, by decide⟩

theorem witness_CpuOutputs : (0xE308#16).getLsbD 15 = true ∧ (0x1FFF#16).getLsbD 15 = false := by decide

theorem witness_DestinationsAreIndependent : (0xE7F8#16).getLsbD 15 = true ∧
    0xE7F8#16 &&& 0xFFC7#16 = 0xE7C0#16 &&& 0xFFC7#16 ∧ (0x1FFF#16).getLsbD 15 = false := by decide

theorem witness_StoreGoesToTheOldA : popState.Inv ∧ (0xFCA8#16).getLsbD 15 = true ∧ (0xFCA8#16).getLsbD 5 = true ∧
    (0xFCA8#16).getLsbD 3 = true ∧ (low15 popState.a).toNat < 24576 ∧
    24576 ≤ (low15 ({ popState with a := 0x6000 } : State).a).toNat :=
  ⟨witness_inv.1, by decide, by decide, by decide, by decide, by decide⟩

/-- The store of that word goes to RAM[0] and not to the new A. -/
theorem test_pop : (run 0xFCA8 popState).map (fun t => (t.a, t.ram)) = some (0x100, [(0, 0x100)]) := by decide

theorem witness_WritingADisturbsNothingElse : (0xFCA8#16).getLsbD 15 = true ∧
    0xFCA8#16 &&& 0xFFDF#16 ≠ 0xFCA8#16 := by decide

theorem witness_NextPcOfEveryWord : ({ popState with resetIn := true } : State).resetIn = true ∧
    popState.resetIn = false ∧ (0xEA87#16).getLsbD 15 = true ∧ (0x0002#16).getLsbD 15 = false := by decide

theorem witness_NoDestNoJumpOnlyAdvances : (0xEA80#16).getLsbD 15 = true ∧ (0xEA80#16).extractLsb' 0 6 = 0#6 := by
  decide

/-- An instruction for each clause of FrameOfEveryInstruction. -/
theorem witness_FrameOfEveryInstruction :
    (∃ t, exec (.passD ⟨false, false, true⟩ ⟨false, false, false⟩) popState = .next t) ∧
    (encode (.passD ⟨false, false, true⟩ ⟨false, false, false⟩)).getLsbD 15 = true ∧
    (encode (.passD ⟨false, false, true⟩ ⟨false, false, false⟩)).getLsbD 5 = false ∧
    (encode (.passD ⟨false, false, true⟩ ⟨false, false, false⟩)).getLsbD 4 = false ∧
    (∃ t, exec (.atValue 7) popState = .next t) ∧ (encode (.atValue 7)).getLsbD 15 = false ∧
    (encode (.passA ⟨false, true, false⟩ ⟨false, false, false⟩)).getLsbD 3 = false :=
  ⟨⟨_, rfl⟩, by decide, by decide, by decide, ⟨_, rfl⟩, by decide, by decide⟩

theorem witness_PcTopBitIsUnobservable : SameButPcTop popState { popState with pc := 0x8003 } ∧
    popState ≠ { popState with pc := 0x8003 } :=
  ⟨⟨by decide, rfl⟩, by decide⟩

theorem witness_StepKeepsInvariant : popState.Inv ∧ ∃ t, step popState = .next t ∧ t.ram = [(0, 0x100)] :=
  ⟨witness_inv.1, _, rfl, by decide⟩

theorem witness_HostRunKeepsInvariant : popState.Inv ∧
    ∃ t, hostRun [.poke 5 6, .tick false] popState = .next t ∧ t.ram = [(0, 0x100), (5, 6)] :=
  ⟨witness_inv.1, _, rfl, by decide⟩

/-- The three clauses of LoadProgramFillsTheRom, the lengths at their bounds. -/
theorem witness_LoadProgramFillsTheRom : State.reset.loadOpen = true ∧
    (List.replicate 32768 (1 : Word)).length ≤ 32768 ∧ 32768 < (List.replicate 32769 (1 : Word)).length ∧
    popState.loadOpen = false :=
  ⟨rfl, by rw [List.length_replicate], by rw [List.length_replicate]; decide, rfl⟩

theorem witness_EmptyRomRunsAtZero : State.reset.rom = [] := rfl

theorem witness_AssemblyRoundTrip : SymbolTable.predefined.wf = true ∧
    (decodeAssembly "@foo".toList SymbolTable.predefined).toOption.map Prod.fst = some (.atValue 16) ∧
    (decodeBinary 0xE308).toOption ≠ none := by decide

theorem witness_BoundSymbolsKeepTheirAddress : SymbolTable.predefined.lookup "R3".toList = some 3 := by decide

/-- The four clauses, the addresses at the bounds of each. -/
theorem witness_VariablesInFirstSeenOrder : isSymbol "sum".toList = true ∧ isSymbol "i".toList = true ∧
    SymbolTable.predefined.lookup "sum".toList = none ∧ SymbolTable.predefined.nextVar.toNat ≤ 32767 ∧
    (let t : SymbolTable := { binds := [("sum".toList, 32767)], nextVar := 32767 }
     t.lookup "i".toList = none ∧ t.nextVar.toNat ≤ 32767 ∧ t.lookup "sum".toList = some 32767) ∧
    (let t : SymbolTable := { binds := [("sum".toList, 32768)], nextVar := 32768 }
     t.lookup "i".toList = none ∧ 32767 < t.nextVar.toNat ∧ t.lookup "sum".toList = some 32768) := by decide

/-- Lines of instruction form alone are counted one each. -/
theorem codeLines_replicate (n : Nat) : Statement.codeLines (List.replicate n "D".toList) = n := by
  have h : classify "D".toList = .code "D".toList := by decide
  unfold Statement.codeLines
  rw [List.filter_eq_self.mpr, List.length_replicate]
  intro line hline
  rw [List.eq_of_mem_replicate hline, h]

theorem witness_LabelsBindTheNextAddress : classify "(END) // stop".toList = .label "END".toList ∧
    SymbolTable.predefined.lookup "END".toList = none ∧
    (∀ l ∈ ["@END".toList, "0;JMP".toList, "(LOOP)".toList], classify l ≠ .label "END".toList) := by decide

/-- The two clauses of that statement, programs of lines that are no label at the bound of the count. -/
theorem witness_LabelsBindTheNextAddress_counts :
    (∀ n, ∀ l ∈ List.replicate n "D".toList, classify l ≠ .label "END".toList) ∧
    Statement.codeLines (List.replicate 65535 "D".toList) ≤ 65535 ∧ 65535 < Statement.codeLines (List.replicate 65536 "D".toList) := by
  refine ⟨fun n l h => ?_, ?_, ?_⟩
  · rw [List.eq_of_mem_replicate h]
    decide
  · rw [codeLines_replicate]
  · rw [codeLines_replicate]
    decide

end Sys2Proof.Tests
end

section
/-! The program counter's operation (rule R28): one law per branch of the priority, then the statement. -/

namespace Sys2Proof.Machine

variable (pc input : Word) (load inc : Bool)

@[simp] theorem pcNext_of_reset : pcNext pc input load inc true = 0x0000#16 := rfl
@[simp] theorem pcNext_of_load : pcNext pc input true inc false = input := rfl
@[simp] theorem pcNext_of_inc : pcNext pc input false true false = pc + 1 := rfl
@[simp] theorem pcNext_of_hold : pcNext pc input false false false = pc := rfl

/-- The increment of the 16-bit cell is the increment modulo 65536 of its number: 0xFFFF wraps to 0 (rule R30). -/
theorem add_one_eq_ofNat_mod : pc + 1 = BitVec.ofNat 16 ((pc.toNat + 1) % 65536) := by
  apply BitVec.eq_of_toNat_eq
  simp

/-- Settles O15: one branch law for each of the four priorities; only the increment needs arithmetic. -/
theorem programCounterPriority : Obligations.ProgramCounterPriority := by
  unfold Obligations.ProgramCounterPriority pcTick
  intro pc input load inc
  refine ⟨?reset, ?load, ?inc, ?hold⟩
  case reset => rw [pcNext_of_reset]
  case load => rw [pcNext_of_load]
  case inc => rw [pcNext_of_inc, add_one_eq_ofNat_mod]
  case hold => rw [pcNext_of_hold]

end Sys2Proof.Machine
end

section
/-! The memory router (rules R61 to R66): the region of an address from its bounds, what a read and a write do in each
region, then the statements of 20_memory.md. -/

namespace Sys2Proof.Machine

/-! ## The region of an address -/

theorem route_of_lt_ramWords {addr : Addr} (h : addr.toNat < Config.ramWords) : route addr = .ram := if_pos h

theorem route_of_screen_range {addr : Addr} (hlo : Config.screenBase ≤ addr.toNat)
    (hhi : addr.toNat < Config.kbdAddr) : route addr = .screen :=
  (if_neg (Nat.not_lt.mpr hlo)).trans (if_pos hhi)

theorem route_of_eq_kbdAddr {addr : Addr} (h : addr.toNat = Config.kbdAddr) : route addr = .keyboard := by
  simp [route, h, Config.kbdAddr, Config.ramWords]

theorem route_of_kbdAddr_lt {addr : Addr} (h : Config.kbdAddr < addr.toNat) : route addr = .void := by
  have not_ram : ¬ addr.toNat < Config.ramWords := Nat.not_lt.mpr (le_trans (by decide) h.le)
  rw [route, if_neg not_ram, if_neg (Nat.lt_asymm h), if_neg (Nat.ne_of_gt h)]

/-- The addresses that hold a store, RAM and Screen, are those below the Keyboard. -/
theorem route_stored_of_lt_kbdAddr {addr : Addr} (h : addr.toNat < Config.kbdAddr) :
    route addr = .ram ∨ route addr = .screen :=
  (Nat.lt_or_ge addr.toNat Config.ramWords).imp route_of_lt_ramWords (route_of_screen_range · h)

theorem route_unstored_of_kbdAddr_le {addr : Addr} (h : Config.kbdAddr ≤ addr.toNat) :
    route addr = .keyboard ∨ route addr = .void :=
  (Nat.eq_or_lt_of_le h).imp (fun e => route_of_eq_kbdAddr e.symm) route_of_kbdAddr_lt

/-! ## Reads and writes by region -/

section Regions

variable (s : State) {addr : Addr} (v : Word)

theorem State.readMem_of_ram (h : route addr = .ram) : s.readMem addr = s.ram.read addr.toNat := by
  simp [State.readMem, h]

theorem State.readMem_of_screen (h : route addr = .screen) :
    s.readMem addr = s.screen.read (screenIndex addr) := by
  simp [State.readMem, h]

theorem State.readMem_of_keyboard (h : route addr = .keyboard) : s.readMem addr = s.kbd := by
  simp [State.readMem, h]

theorem State.readMem_of_void (h : route addr = .void) : s.readMem addr = 0x0000#16 := by
  simp [State.readMem, h]

theorem State.writeMem_of_ram (h : route addr = .ram) :
    s.writeMem addr v = { s with ram := s.ram.write addr.toNat v } := by
  simp [State.writeMem, h]

theorem State.writeMem_of_screen (h : route addr = .screen) :
    s.writeMem addr v = { s with screen := s.screen.write (screenIndex addr) v } := by
  simp [State.writeMem, h]

/-- The Keyboard and the void discard a write (rule R64). -/
theorem State.writeMem_of_kbdAddr_le (h : Config.kbdAddr ≤ addr.toNat) : s.writeMem addr v = s := by
  rcases route_unstored_of_kbdAddr_le h with hr | hr <;> simp [State.writeMem, hr]

end Regions

/-- In a state whose stores are canonical, the address written reads as the word written. -/
theorem State.Inv.readMem_writeMem_same {s : State} (hs : s.Inv) {addr : Addr} (v : Word)
    (h : addr.toNat < Config.kbdAddr) : (s.writeMem addr v).readMem addr = v := by
  rcases route_stored_of_lt_kbdAddr h with hr | hr
  · rw [State.writeMem_of_ram s v hr, State.readMem_of_ram _ hr]
    exact Memory.read_write_same v hs.ram
  · rw [State.writeMem_of_screen s v hr, State.readMem_of_screen _ hr]
    exact Memory.read_write_same v hs.screen

/-! ## The statements -/

/-- Settles O11: below the Keyboard the read after a write is the word written in a canonical store, and every other
address keeps its word; from the Keyboard on the write is discarded. -/
theorem writeByRegion : Obligations.WriteByRegion := by
  unfold Obligations.WriteByRegion
  intro s addr v hs
  refine ⟨fun stored b => ?_, State.writeMem_of_kbdAddr_le s v⟩
  split
  case isTrue same =>
    rw [same]
    exact hs.readMem_writeMem_same v stored
  case isFalse other => exact State.readMem_writeMem_of_ne s v other

/-- Settles O10: the region of the address, then the read in that region. -/
theorem readByRegion : Obligations.ReadByRegion := by
  unfold Obligations.ReadByRegion
  intro s addr
  refine ⟨fun ram => ?_, fun lo hi => ?_, fun kbd => ?_, fun void => ?_⟩
  · exact s.readMem_of_ram (route_of_lt_ramWords ram)
  · exact s.readMem_of_screen (route_of_screen_range lo hi)
  · exact s.readMem_of_keyboard (route_of_eq_kbdAddr kbd)
  · exact s.readMem_of_void (route_of_kbdAddr_lt void)

/-- Settles O12: a write is an update of the one store of its region, or no update at all. -/
theorem writeTouchesOneStore : Obligations.WriteTouchesOneStore := by
  unfold Obligations.WriteTouchesOneStore
  intro s addr v
  refine ⟨fun ram => ?_, fun lo hi => ?_, State.writeMem_of_kbdAddr_le s v⟩
  · rw [State.writeMem_of_ram s v (route_of_lt_ramWords ram)]
    exact ⟨rfl, rfl⟩
  · rw [State.writeMem_of_screen s v (route_of_screen_range lo hi)]
    exact ⟨rfl, rfl⟩

end Sys2Proof.Machine
end

section
/-! The binary codec (rules R101 to R112): the fields of a word, the encoder on what the decoder gives, and the
statements of 30_encoding.md about words. -/

namespace Sys2Proof

/-! ## The fields of a word and of a comp code -/

theorem ofBool_getLsbD_eq_extract (w : Word) (i : Nat) : BitVec.ofBool (w.getLsbD i) = w.extractLsb' i 1 := by
  ext j hj
  obtain rfl : j = 0 := Nat.lt_one_iff.mp hj
  simp

theorem YSource.code_ofBit (a : Bool) : (YSource.ofBit a).code = BitVec.ofBool a := by
  cases a <;> rfl

@[simp] theorem YSource.ofComp_compOf (w : Word) : YSource.ofComp (compOf w) = ySourceOf w := by
  simp [YSource.ofComp, compOf, ySourceOf]

@[simp] theorem AluCtl.ofComp_compOf (w : Word) : AluCtl.ofComp (compOf w) = ctlOf w := by
  simp [AluCtl.ofComp, AluCtl.ofCode, compOf, ctlOf]

/-- A comp code is its `a` bit followed by its control bits (rule R103). -/
theorem code_ofComp_append (c : BitVec 7) : (YSource.ofComp c).code ++ (AluCtl.ofComp c).code = c := by
  revert c
  decide

/-- The comp field of a word made from a comp code is that code. -/
theorem compOf_cWord_ofComp (top : BitVec 3) (c : BitVec 7) (dest : Dest) (jump : Jump) :
    compOf (cWord top (YSource.ofComp c) (AluCtl.ofComp c).code dest jump) = c := by
  rw [← code_ofComp_append (compOf _), YSource.ofComp_compOf, AluCtl.ofComp_compOf, ySourceOf_cWord, ctlOf_cWord,
    AluCtl.ofCode_code, code_ofComp_append]

theorem extract_13_2_eq_iff (w : Word) :
    w.extractLsb' 13 2 = 0b11#2 ↔ w.getLsbD 14 = true ∧ w.getLsbD 13 = true := by
  rw [← BitVec.extractLsb'_append_extractLsb'_eq_extractLsb' (start₂ := 14) (len₂ := 1) (len₁ := 1) rfl,
    ← ofBool_getLsbD_eq_extract, ← ofBool_getLsbD_eq_extract]
  cases w.getLsbD 14 <;> cases w.getLsbD 13 <;> decide

/-- A word is its three top bits and its fields, in their places (rule R103). -/
theorem cWord_fields (w : Word) :
    cWord (BitVec.ofBool (w.getLsbD 15) ++ BitVec.ofBool (w.getLsbD 14) ++ BitVec.ofBool (w.getLsbD 13))
      (ySourceOf w) (ctlOf w).code (destOf w) (jumpOf w) = w := by
  rw [cWord, ySourceOf, YSource.code_ofBit, ctlOf, destOf, jumpOf, AluCtl.code_ofCode, Dest.code_ofCode,
    Jump.code_ofCode]
  simp only [ofBool_getLsbD_eq_extract]
  rw [BitVec.extractLsb'_append_extractLsb'_eq_extractLsb' (start₂ := 15) rfl,
    BitVec.extractLsb'_append_extractLsb'_eq_extractLsb' (start₂ := 14) rfl,
    BitVec.extractLsb'_append_extractLsb'_eq_extractLsb' (start₂ := 13) rfl,
    BitVec.extractLsb'_append_extractLsb'_eq_extractLsb' (start₂ := 12) rfl,
    BitVec.extractLsb'_append_extractLsb'_eq_extractLsb' (start₂ := 6) rfl,
    BitVec.extractLsb'_append_extractLsb'_eq_extractLsb' (start₂ := 3) rfl, BitVec.extractLsb'_eq_self]

/-- The fields as the C format puts them together: shifted to their places over the three set bits (rule R109). -/
theorem cWord_ofComp_eq_or (c : BitVec 7) (d j : BitVec 3) :
    cWord 0b111#3 (YSource.ofComp c) (AluCtl.ofComp c).code (Dest.ofCode d) (Jump.ofCode j) =
      0xE000#16 ||| (c.setWidth 16 <<< 6) ||| (d.setWidth 16 <<< 3) ||| j.setWidth 16 := by
  apply BitVec.eq_of_getLsbD_eq
  intro i hi
  rw [getLsbD_cWord, Dest.code_ofCode, Jump.code_ofCode, AluCtl.ofComp, AluCtl.code_ofCode, YSource.ofComp,
    YSource.code_ofBit]
  interval_cases i <;> simp

/-! ## The A format -/

theorem decodeWord_of_isA {w : Word} (h : w.getLsbD 15 = false) : decodeWord w = .atValue (valueOf w) :=
  if_neg (Bool.eq_false_iff.mp h)

theorem getLsbD_15_encode_atValue (v : Addr) : (encode (.atValue v)).getLsbD 15 = false :=
  BitVec.getLsbD_append (x := 0#1) (y := v) (i := 15)

theorem valueOf_encode_atValue (v : Addr) : valueOf (encode (.atValue v)) = v :=
  BitVec.extractLsb'_append_eq_right (a := 0#1)

theorem encode_atValue_valueOf {w : Word} (h : w.getLsbD 15 = false) : encode (.atValue (valueOf w)) = w := by
  have top : w.extractLsb' 15 1 = 0#1 := by
    rw [← ofBool_getLsbD_eq_extract, h]
    rfl
  rw [encode, valueOf, ← top, BitVec.extractLsb'_append_extractLsb'_eq_extractLsb' (start₂ := 15) rfl,
    BitVec.extractLsb'_eq_self]

/-! ## The C format -/

/-- The 128 well-formed C constructors have one encoding. -/
theorem encode_cInstr (y : YSource) (ctl : AluCtl) (dest : Dest) (jump : Jump) :
    encode (cInstr y ctl dest jump) = cWord 0b111#3 y ctl.code dest jump := by
  obtain ⟨zx, nx, zy, ny, f, no⟩ := ctl
  cases y <;> cases zx <;> cases nx <;> cases zy <;> cases ny <;> cases f <;> cases no <;> rfl

/-- The word of a C-instruction given by its three codes (rule R109). -/
theorem encode_cInstr_ofComp (c : BitVec 7) (d j : BitVec 3) :
    encode (cInstr (YSource.ofComp c) (AluCtl.ofComp c) (Dest.ofCode d) (Jump.ofCode j)) =
      0xE000#16 ||| (c.setWidth 16 <<< 6) ||| (d.setWidth 16 <<< 3) ||| j.setWidth 16 :=
  (encode_cInstr _ _ _ _).trans (cWord_ofComp_eq_or c d j)

theorem wellFormed_cInstr (y : YSource) (ctl : AluCtl) (dest : Dest) (jump : Jump) :
    (cInstr y ctl dest jump).wellFormed = true := by
  obtain ⟨zx, nx, zy, ny, f, no⟩ := ctl
  cases y <;> cases zx <;> cases nx <;> cases zy <;> cases ny <;> cases f <;> cases no <;> rfl

theorem decodeWord_of_wellFormedC {w : Word} (h15 : w.getLsbD 15 = true) (h14 : w.getLsbD 14 = true)
    (h13 : w.getLsbD 13 = true) : decodeWord w = cInstr (ySourceOf w) (ctlOf w) (destOf w) (jumpOf w) := by
  rw [decodeWord, if_pos h15, h14, h13]

theorem wellFormed_decodeWord_of_malformed {w : Word} (h15 : w.getLsbD 15 = true)
    (h : ¬ (w.getLsbD 14 = true ∧ w.getLsbD 13 = true)) : (decodeWord w).wellFormed = false := by
  rw [decodeWord, if_pos h15]
  split
  case h_1 h14 h13 => exact absurd ⟨h14, h13⟩ h
  all_goals rfl

/-- Encoding what the CPU decodes from a word gives the word, malformed or not (rules R109 and R111). -/
theorem encode_decodeWord (w : Word) : encode (decodeWord w) = w := by
  cases h15 : w.getLsbD 15 with
  | false => rw [decodeWord_of_isA h15, encode_atValue_valueOf h15]
  | true =>
    have fields := cWord_fields w
    rw [decodeWord, if_pos h15]
    split
    case h_1 h14 h13 =>
      rw [h15, h14, h13] at fields
      exact (encode_cInstr _ _ _ _).trans fields
    all_goals
      rename_i h14 h13
      rw [h15, h14, h13] at fields
      exact fields

/-! ## The codec's decoder -/

theorem decodeBinary_of_wellFormed {w : Word} (h : (decodeWord w).wellFormed = true) :
    decodeBinary w = .ok (decodeWord w) := if_pos h

theorem decodeBinary_of_malformed {w : Word} (h : (decodeWord w).wellFormed = false) :
    decodeBinary w = .error .malformedC := if_neg (Bool.eq_false_iff.mp h)

/-- Where the codec's decoder gives an instruction, it is the CPU's (rules R110 and R112). -/
theorem eq_decodeWord_of_decodeBinary_ok {w : Word} {i : Instr} (h : decodeBinary w = .ok i) : i = decodeWord w := by
  rw [decodeBinary] at h
  split at h
  · exact (Except.ok.inj h).symm
  · cases h

theorem encode_of_decodeBinary_ok {w : Word} {i : Instr} (h : decodeBinary w = .ok i) : encode i = w := by
  rw [eq_decodeWord_of_decodeBinary_ok h, encode_decodeWord]

/-! ## The statements -/

/-- Settles O3: the C half is `encode_cInstr_ofComp`, and the two examples are that at their fields' values. -/
theorem toBinaryBuildsTheWord : Obligations.ToBinaryBuildsTheWord := by
  unfold Obligations.ToBinaryBuildsTheWord
  refine ⟨fun v => ?_, encode_cInstr_ofComp, ?_, ?_⟩
  · exact (BitVec.toNat_append 0#1 v).trans (Nat.zero_or _)
  · exact (encode_cInstr_ofComp _ _ _).trans (by decide)
  · exact (encode_cInstr_ofComp _ _ _).trans (by decide)

/-- Settles O4: the class of a word is read from bits 15 to 13, and the encoder undoes the CPU's decoder. -/
theorem decodeBinaryByClass : Obligations.DecodeBinaryByClass := by
  unfold Obligations.DecodeBinaryByClass
  intro w
  refine ⟨fun isA => ?_, fun isC top => ?_, fun isC top => ?_, fun i ok => encode_of_decodeBinary_ok ok⟩
  · have decoded := decodeWord_of_isA isA
    rw [decodeBinary_of_wellFormed (by rw [decoded]; rfl), decoded, valueOf]
  · obtain ⟨h14, h13⟩ := (extract_13_2_eq_iff w).mp top
    have decoded := decodeWord_of_wellFormedC isC h14 h13
    rw [decodeBinary_of_wellFormed (by rw [decoded]; exact wellFormed_cInstr _ _ _ _), decoded,
      ← YSource.ofComp_compOf, ← AluCtl.ofComp_compOf]
    rfl
  · exact decodeBinary_of_malformed
      (wellFormed_decodeWord_of_malformed isC (fun both => top ((extract_13_2_eq_iff w).mpr both)))

/-- Settles O6: a word with bit 15 set executes by the fields below bit 13, which setting bits 14 and 13 keeps. -/
theorem malformedWordActsAsWellFormed : Obligations.MalformedWordActsAsWellFormed := by
  unfold Obligations.MalformedWordActsAsWellFormed
  intro w s isC
  have isC' : (w ||| 0x6000#16).getLsbD 15 = true := by simp [isC]
  have y : ySourceOf (w ||| 0x6000#16) = ySourceOf w := by simp [ySourceOf]
  have ctl : ctlOf (w ||| 0x6000#16) = ctlOf w := by simp [ctlOf, BitVec.extractLsb'_or]
  have dest : destOf (w ||| 0x6000#16) = destOf w := by simp [destOf, BitVec.extractLsb'_or]
  have jump : jumpOf (w ||| 0x6000#16) = jumpOf w := by simp [jumpOf, BitVec.extractLsb'_or]
  rw [Machine.exec_decodeWord_of_isC isC, Machine.exec_decodeWord_of_isC isC', y, ctl, dest, jump]

end Sys2Proof
end

section
/-! The assembly round trip (rules R118 to R120, R126 to R128): numbers, lines, the operand of `@` and the C spellings,
each read back as it is printed. -/

namespace Sys2Proof.Machine

/-! ## Decimal numbers (rule R119) -/

theorem digitChar_spec (v : Nat) : (digitChar v).isDigit = true ∧ (digitChar v).toNat - 48 = v % 10 := by
  have digits : ∀ d < 10, (Char.ofNat (48 + d)).isDigit = true ∧ (Char.ofNat (48 + d)).toNat - 48 = d := by decide
  exact digits (v % 10) (Nat.mod_lt v (by decide))

theorem parseDecimal_of_digits {t : Text} (nonempty : t ≠ []) (digits : t.all Char.isDigit = true) :
    parseDecimal t = some (t.foldl (fun n c => 10 * n + (c.toNat - 48)) 0) := by
  simp only [parseDecimal, List.isEmpty_eq_false_iff.mpr nonempty, digits, Bool.not_true, Bool.or_self,
    Bool.false_eq_true, if_false]

theorem digits_of_parseDecimal {t : Text} {v : Nat} (h : parseDecimal t = some v) :
    t ≠ [] ∧ t.all Char.isDigit = true ∧ t.foldl (fun n c => 10 * n + (c.toNat - 48)) 0 = v := by
  rw [parseDecimal] at h
  split at h
  case isTrue => cases h
  case isFalse ok =>
    simp only [Bool.or_eq_true, not_or, List.isEmpty_iff, Bool.not_eq_true', Bool.not_eq_false] at ok
    exact ⟨ok.1, ok.2, Option.some.inj h⟩

theorem parseDecimal_digitChar {v : Nat} (small : v < 10) : parseDecimal [digitChar v] = some v := by
  obtain ⟨digit, value⟩ := digitChar_spec v
  rw [parseDecimal_of_digits (List.cons_ne_nil _ _) (by simp [digit]), List.foldl_cons, List.foldl_nil, value,
    Nat.mod_eq_of_lt small, Nat.mul_zero, Nat.zero_add]

/-- One more digit at the end of a number's digits. -/
theorem parseDecimal_append_digitChar {t : Text} {m : Nat} (h : parseDecimal t = some m) (v : Nat) :
    parseDecimal (t ++ [digitChar v]) = some (10 * m + v % 10) := by
  obtain ⟨-, digits, total⟩ := digits_of_parseDecimal h
  obtain ⟨digit, value⟩ := digitChar_spec v
  rw [parseDecimal_of_digits (by simp) (by simpa [digit] using digits), List.foldl_append, total, List.foldl_cons,
    List.foldl_nil, value]

/-- Places enough for a number spell it. -/
theorem parseDecimal_decimalDigits {n v : Nat} (fits : v < 10 ^ (n + 1)) :
    parseDecimal (decimalDigits (n + 1) v) = some v := by
  induction n generalizing v with
  | zero =>
    rw [decimalDigits, if_pos (show v < 10 from fits)]
    exact parseDecimal_digitChar fits
  | succ n ih =>
    rw [decimalDigits]
    split
    case isTrue small => exact parseDecimal_digitChar small
    case isFalse => rw [parseDecimal_append_digitChar (ih (by omega)), Nat.div_add_mod]

/-- The value of an A-instruction reads back as printed (rules R119 and R127). -/
theorem parseDecimal_decimal (v : Addr) : parseDecimal (decimal v.toNat) = some v.toNat :=
  parseDecimal_decimalDigits (v.isLt.trans (by decide))

/-! ## Lines of plain characters (rule R118) -/

/-- A character that stands where it is in a line: no white space, no part of a comment, no label's parenthesis. -/
def plainChar (c : Char) : Bool := !c.isWhitespace && c != '/' && c != '('

theorem not_isWhitespace_of_plainChar {c : Char} (h : plainChar c = true) : c.isWhitespace = false := by
  simp only [plainChar, Bool.and_eq_true, Bool.not_eq_true'] at h
  exact h.1.1

theorem ne_slash_of_plainChar {c : Char} (h : plainChar c = true) : c ≠ '/' := by
  rintro rfl
  exact absurd h (by decide)

theorem ne_paren_of_plainChar {c : Char} (h : plainChar c = true) : c ≠ '(' := by
  rintro rfl
  exact absurd h (by decide)

theorem plainChar_of_symbolChar {c : Char} (h : symbolChar c = true) : plainChar c = true := by
  by_contra special
  have cases_of_special : c = ' ' ∨ c = '\t' ∨ c = '\r' ∨ c = '\n' ∨ c = '/' ∨ c = '(' := by
    grind [plainChar, Char.isWhitespace]
  rcases cases_of_special with rfl | rfl | rfl | rfl | rfl | rfl <;> exact absurd h (by decide)

theorem symbolChar_of_isDigit {c : Char} (h : c.isDigit = true) : symbolChar c = true := by
  simp [symbolChar, Char.isAlphanum, h]

theorem stripComment_of_plain {t : Text} (plain : ∀ c ∈ t, plainChar c = true) : stripComment t = t := by
  induction t with
  | nil => rfl
  | cons c cs ih =>
    obtain ⟨head, tail⟩ := List.forall_mem_cons.mp plain
    rw [stripComment, ih tail]
    exact fun _ slash => absurd slash (ne_slash_of_plainChar head)

theorem dropWhile_isWhitespace_of_plain {t : Text} (plain : ∀ c ∈ t, plainChar c = true) :
    t.dropWhile Char.isWhitespace = t := by
  cases t with
  | nil => rfl
  | cons c cs => exact List.dropWhile_cons_of_neg (by simp [not_isWhitespace_of_plainChar (plain c List.mem_cons_self)])

theorem trim_of_plain {t : Text} (plain : ∀ c ∈ t, plainChar c = true) : trim t = t := by
  rw [trim, dropWhile_isWhitespace_of_plain plain,
    dropWhile_isWhitespace_of_plain (fun c mem => plain c (List.mem_reverse.mp mem)), List.reverse_reverse]

/-- A line of plain characters is an instruction line as it stands. -/
theorem classify_of_plain {t : Text} (nonempty : t ≠ []) (plain : ∀ c ∈ t, plainChar c = true) :
    classify t = .code t := by
  rw [classify, stripComment_of_plain plain, trim_of_plain plain]
  cases t with
  | nil => exact absurd rfl nonempty
  | cons c cs =>
    have paren := ne_paren_of_plainChar (plain c List.mem_cons_self)
    split
    case h_1 h => cases h
    case h_2 h => exact absurd (List.cons.inj h).1 paren
    case h_3 => rfl

theorem decodeAssembly_at {operand : Text} (plain : ∀ c ∈ operand, plainChar c = true) (t : SymbolTable) :
    decodeAssembly ('@' :: operand) t = decodeAt operand t := by
  have line_plain : ∀ c ∈ '@' :: operand, plainChar c = true := List.forall_mem_cons.mpr ⟨by decide, plain⟩
  rw [decodeAssembly, classify_of_plain (List.cons_ne_nil _ _) line_plain]
  rfl

theorem decodeAssembly_code {body : Text} {i : Instr} (plain : ∀ c ∈ body, plainChar c = true) (noAt : '@' ∉ body)
    (h : decodeC body = some i) (t : SymbolTable) : decodeAssembly body t = .ok (i, t) := by
  have nonempty : body ≠ [] := by
    rintro rfl
    cases h
  rw [decodeAssembly, classify_of_plain nonempty plain]
  split
  case h_4 operand e => exact absurd (Line.code.inj e ▸ List.mem_cons_self) noAt
  case h_5 e =>
    rw [← Line.code.inj e, h]
  all_goals rename_i e; cases e

/-- A line decodes as the operand of `@`, or as a C-instruction that leaves the table alone. -/
theorem decodeAssembly_cases {line : Text} {t t' : SymbolTable} {i : Instr}
    (h : decodeAssembly line t = .ok (i, t')) :
    (∃ operand, decodeAt operand t = .ok (i, t')) ∨ (∃ body, decodeC body = some i) ∧ t' = t := by
  rw [decodeAssembly] at h
  split at h
  case h_4 operand _ => exact .inl ⟨operand, h⟩
  case h_5 body _ _ =>
    split at h
    case h_1 i' decoded =>
      obtain ⟨rfl, rfl⟩ := Prod.mk.inj (Except.ok.inj h)
      exact .inr ⟨⟨body, decoded⟩, rfl⟩
    case h_2 => cases h
  all_goals cases h

/-! ## Well-formed tables -/

theorem SymbolTable.wf_iff (t : SymbolTable) :
    t.wf = true ↔ (∀ b ∈ t.binds, isSymbol b.1 = true) ∧ (t.binds.map Prod.fst).Nodup := by
  simp [SymbolTable.wf]

theorem SymbolTable.mem_binds_of_nameOf {t : SymbolTable} {name : Text} {v : Word} (h : t.nameOf v = some name) :
    (name, v) ∈ t.binds := by
  obtain ⟨b, found, rfl⟩ := Option.map_eq_some_iff.mp h
  have addr : b.2 = v := by simpa using List.find?_some found
  exact addr ▸ List.mem_of_find?_eq_some found

/-- In a well-formed table every binding is the one its name looks up. -/
theorem SymbolTable.lookup_of_mem_binds {t : SymbolTable} (wf : t.wf = true) {name : Text} {v : Word}
    (mem : (name, v) ∈ t.binds) : t.lookup name = some v := by
  obtain ⟨-, nodup⟩ := t.wf_iff.mp wf
  have found : (t.binds.find? (fun b => b.1 == name)).isSome = true :=
    List.find?_isSome.mpr ⟨_, mem, beq_self_eq_true name⟩
  obtain ⟨b, hb⟩ := Option.isSome_iff_exists.mp found
  have same_name : b.1 = name := by simpa using List.find?_some hb
  have same : b = (name, v) := List.inj_on_of_nodup_map nodup (List.mem_of_find?_eq_some hb) mem same_name
  rw [SymbolTable.lookup, hb, same]
  rfl

theorem SymbolTable.lookup_of_nameOf {t : SymbolTable} (wf : t.wf = true) {name : Text} {v : Word}
    (h : t.nameOf v = some name) : t.lookup name = some v :=
  SymbolTable.lookup_of_mem_binds wf (SymbolTable.mem_binds_of_nameOf h)

theorem SymbolTable.isSymbol_of_nameOf {t : SymbolTable} (wf : t.wf = true) {name : Text} {v : Word}
    (h : t.nameOf v = some name) : isSymbol name = true :=
  (t.wf_iff.mp wf).1 _ (SymbolTable.mem_binds_of_nameOf h)

theorem SymbolTable.not_mem_names_of_lookup_none {t : SymbolTable} {name : Text} (h : t.lookup name = none) :
    name ∉ t.binds.map Prod.fst := by
  have other := List.find?_eq_none.mp (Option.map_eq_none_iff.mp h)
  intro mem
  obtain ⟨b, hb, same⟩ := List.mem_map.mp mem
  exact other b hb (beq_iff_eq.mpr same)

/-- A new name at the end of a well-formed table leaves it well formed (rule R122). -/
theorem SymbolTable.wf_append {t : SymbolTable} (wf : t.wf = true) {name : Text} (symbol : isSymbol name = true)
    (new : t.lookup name = none) (addr next : Word) :
    (SymbolTable.mk (t.binds ++ [(name, addr)]) next).wf = true := by
  obtain ⟨symbols, nodup⟩ := t.wf_iff.mp wf
  refine (SymbolTable.wf_iff _).mpr ⟨?_, ?_⟩
  · exact List.forall_mem_append.mpr ⟨symbols, List.forall_mem_singleton.mpr symbol⟩
  · rw [List.map_append]
    refine nodup.append (List.nodup_singleton _) ?_
    exact List.disjoint_singleton.mpr (SymbolTable.not_mem_names_of_lookup_none new)

/-! ## The operand of `@` (rules R119, R123 and R127) -/

theorem plain_of_isSymbol {name : Text} (h : isSymbol name = true) : ∀ c ∈ name, plainChar c = true := by
  cases name with
  | nil => cases h
  | cons c cs =>
    simp only [isSymbol, Bool.and_eq_true] at h
    exact fun c' mem => plainChar_of_symbolChar (List.all_eq_true.mp h.2 c' mem)

/-- A name is no number: its first character is no digit. -/
theorem parseDecimal_of_isSymbol {name : Text} (h : isSymbol name = true) : parseDecimal name = none := by
  cases name with
  | nil => rfl
  | cons c cs =>
    simp only [isSymbol, Bool.and_eq_true, Bool.not_eq_true'] at h
    simp [parseDecimal, h.1]

theorem atOf_toNat (v : Addr) : atOf v.toNat = .ok (.atValue v) := by
  rw [atOf_of_le (Nat.le_of_lt_succ v.isLt), BitVec.ofNat_toNat, BitVec.setWidth_eq]

theorem eq_atValue_of_atOf_map {α : Type} {n : Nat} {f : Instr → α} {r : α} (h : (atOf n).map f = .ok r) :
    ∃ v, f (.atValue v) = r := by
  rw [atOf] at h
  split at h
  · exact ⟨_, Except.ok.inj h⟩
  · cases h

/-- The operand of `@` gives an A-instruction and a well-formed table: the same, or one with a new variable. -/
theorem decodeAt_ok {operand : Text} {t t' : SymbolTable} {i : Instr} (wf : t.wf = true)
    (h : decodeAt operand t = .ok (i, t')) : (∃ v, i = .atValue v) ∧ t'.wf = true := by
  rw [decodeAt] at h
  split at h
  case h_1 =>
    obtain ⟨v, pair⟩ := eq_atValue_of_atOf_map h
    obtain ⟨rfl, rfl⟩ := Prod.mk.inj pair
    exact ⟨⟨v, rfl⟩, wf⟩
  case h_2 =>
    split at h
    case isFalse => cases h
    case isTrue symbol =>
      split at h
      case h_1 =>
        obtain ⟨v, pair⟩ := eq_atValue_of_atOf_map h
        obtain ⟨rfl, rfl⟩ := Prod.mk.inj pair
        exact ⟨⟨v, rfl⟩, wf⟩
      case h_2 new =>
        obtain ⟨v, pair⟩ := eq_atValue_of_atOf_map h
        obtain ⟨rfl, rfl⟩ := Prod.mk.inj pair
        exact ⟨⟨v, rfl⟩, SymbolTable.wf_append wf symbol new _ _⟩

/-- The operand `toAssembly` prints for a value. -/
def atOperand (v : Addr) (t : SymbolTable) : Text := (t.nameOf (v.setWidth 16)).getD (decimal v.toNat)

theorem toAssembly_atValue (v : Addr) (t : SymbolTable) :
    toAssembly (.atValue v) t = some ('@' :: atOperand v t) := by
  simp only [toAssembly, assemblyOfWord, getLsbD_15_encode_atValue, valueOf_encode_atValue, Bool.false_eq_true,
    if_false, atOperand]

theorem plain_of_parseDecimal {t : Text} {v : Nat} (h : parseDecimal t = some v) : ∀ c ∈ t, plainChar c = true := by
  obtain ⟨-, digits, -⟩ := digits_of_parseDecimal h
  exact fun c mem => plainChar_of_symbolChar (symbolChar_of_isDigit (List.all_eq_true.mp digits c mem))

theorem decodeAssembly_toAssembly_atValue {t : SymbolTable} (wf : t.wf = true) (v : Addr) :
    decodeAssembly ('@' :: atOperand v t) t = .ok (.atValue v, t) := by
  cases named : t.nameOf (v.setWidth 16) with
  | none =>
    have number := parseDecimal_decimal v
    simp only [atOperand, named, Option.getD_none]
    rw [decodeAssembly_at (plain_of_parseDecimal number), decodeAt, number]
    simp only [atOf_toNat]
    rfl
  | some name =>
    have symbol := SymbolTable.isSymbol_of_nameOf wf named
    simp only [atOperand, named, Option.getD_some]
    rw [decodeAssembly_at (plain_of_isSymbol symbol), decodeAt, parseDecimal_of_isSymbol symbol]
    simp only [symbol, if_true, SymbolTable.lookup_of_nameOf wf named]
    have value : (v.setWidth 16).toNat = v.toNat := BitVec.toNat_setWidth_of_le (by decide)
    rw [value, atOf_toNat]
    rfl

/-! ## The C spellings (rules R106 to R108 and R120) -/

/-- A character of the field tables: plain, and none of the marks `@`, `=` and `;` of an instruction line. -/
def fieldChar (c : Char) : Bool := plainChar c && c != '@' && c != '=' && c != ';'

/-- A text of such characters. -/
def FieldText (text : Text) : Prop := ∀ c ∈ text, fieldChar c = true

theorem plainChar_of_fieldChar {c : Char} (h : fieldChar c = true) : plainChar c = true := by
  simp only [fieldChar, Bool.and_eq_true] at h
  exact h.1.1.1

theorem FieldText.not_mem {text : Text} (h : FieldText text) {mark : Char} (hmark : fieldChar mark = false) :
    mark ∉ text :=
  fun mem => Bool.false_ne_true (hmark.symm.trans (h mark mem))

/-- A table that spells each of its values in one way, and in characters of its own. -/
def Faithful {α : Type} [DecidableEq α] (table : List (Text × α)) : Prop :=
  ∀ b ∈ table, spelling table b.2 = some b.1 ∧ spelled table b.1 = some b.2 ∧ b.1.all fieldChar = true

theorem faithful_compTable : Faithful compTable := by
  unfold Faithful
  decide

theorem faithful_destTable : Faithful destTable := by
  unfold Faithful
  decide

theorem faithful_jumpTable : Faithful jumpTable := by
  unfold Faithful
  decide

section Tables

variable {α : Type} {table : List (Text × α)} {text : Text} {v : α}

theorem mem_of_spelled (h : spelled table text = some v) : (text, v) ∈ table := by
  obtain ⟨b, found, rfl⟩ := Option.map_eq_some_iff.mp h
  have same : b.1 = text := by simpa using List.find?_some found
  exact same ▸ List.mem_of_find?_eq_some found

theorem mem_of_spelling [DecidableEq α] (h : spelling table v = some text) : (text, v) ∈ table := by
  obtain ⟨b, found, rfl⟩ := Option.map_eq_some_iff.mp h
  have same : b.2 = v := by simpa using List.find?_some found
  exact same ▸ List.mem_of_find?_eq_some found

variable [DecidableEq α] (faithful : Faithful table)
include faithful

theorem Faithful.spelled_of_spelling (h : spelling table v = some text) : spelled table text = some v :=
  (faithful _ (mem_of_spelling h)).2.1

theorem Faithful.spelling_of_spelled (h : spelled table text = some v) : spelling table v = some text :=
  (faithful _ (mem_of_spelled h)).1

theorem Faithful.fieldText_of_spelling (h : spelling table v = some text) : FieldText text :=
  List.all_eq_true.mp (faithful _ (mem_of_spelling h)).2.2

/-- An optional field, printed only where the table spells it, reads back as its value. -/
theorem Faithful.elim_spelling {absent : α} (unspelled : spelling table v = none → absent = v) :
    (spelling table v).elim (some absent) (spelled table) = some v := by
  cases h : spelling table v with
  | none => exact congrArg some (unspelled h)
  | some text => exact faithful.spelled_of_spelling h

end Tables

theorem eq_of_spelling_destTable_eq_none {dest : Dest} (h : spelling destTable dest = none) :
    Dest.ofCode 0b000#3 = dest := by
  obtain ⟨a, d, m⟩ := dest
  revert a d m
  decide

theorem eq_of_spelling_jumpTable_eq_none {jump : Jump} (h : spelling jumpTable jump = none) :
    Jump.ofCode 0b000#3 = jump := by
  obtain ⟨n, z, p⟩ := jump
  revert n z p
  decide

/-! ## `[dest=]comp[;jump]` (rule R120) -/

theorem splitAtChar_of_not_mem {c : Char} {t : Text} (h : c ∉ t) : splitAtChar c t = (t, none) := by
  induction t with
  | nil => rfl
  | cons x xs ih =>
    obtain ⟨head, tail⟩ := List.ne_and_not_mem_of_not_mem_cons h
    rw [splitAtChar, if_neg (Ne.symm head), ih tail]

theorem splitAtChar_append {c : Char} {t : Text} (h : c ∉ t) (u : Text) :
    splitAtChar c (t ++ c :: u) = (t, some u) := by
  induction t with
  | nil => exact if_pos rfl
  | cons x xs ih =>
    obtain ⟨head, tail⟩ := List.ne_and_not_mem_of_not_mem_cons h
    rw [List.cons_append, splitAtChar, if_neg (Ne.symm head), ih tail]

/-- The destination text of a body, if it has one, and the rest. -/
def splitDest (body : Text) : Option Text × Text :=
  match splitAtChar '=' body with
  | (all, none) => (none, all)
  | (before, some after) => (some before, after)

/-- What `decodeC` answers for the three texts of a body. -/
def decodeParts (destText : Option Text) (compText : Text) (jumpText : Option Text) : Option Instr :=
  match spelled compTable compText with
  | none => none
  | some comp =>
    match destText.elim (some (Dest.ofCode 0b000#3)) (spelled destTable),
      jumpText.elim (some (Jump.ofCode 0b000#3)) (spelled jumpTable) with
    | some dest, some jump => some (cInstr (YSource.ofComp comp) (AluCtl.ofComp comp) dest jump)
    | _, _ => none

theorem decodeC_eq_decodeParts (body : Text) :
    decodeC body = decodeParts (splitDest body).1 (splitAtChar ';' (splitDest body).2).1
      (splitAtChar ';' (splitDest body).2).2 := rfl

/-- A body that decodes is a C-instruction whose computation the table spells. -/
theorem exists_spelled_of_decodeC {body : Text} {i : Instr} (h : decodeC body = some i) :
    ∃ text comp dest jump, spelled compTable text = some comp ∧
      i = cInstr (YSource.ofComp comp) (AluCtl.ofComp comp) dest jump := by
  rw [decodeC_eq_decodeParts, decodeParts] at h
  split at h
  case h_1 => cases h
  case h_2 comp spelled =>
    split at h
    case h_1 dest jump _ _ => exact ⟨_, comp, dest, jump, spelled, (Option.some.inj h).symm⟩
    case h_2 => cases h

/-- A body put together from its texts. -/
def joinParts (dest : Option Text) (comp : Text) (jump : Option Text) : Text :=
  (dest.map (fun d => d ++ ['='])).getD [] ++ comp ++ (jump.map (fun j => ';' :: j)).getD []

section Parts

variable {dest jump : Option Text} {comp : Text} (hdest : ∀ d, dest = some d → FieldText d) (hcomp : FieldText comp)
  (hjump : ∀ j, jump = some j → FieldText j)

include hcomp hjump in
theorem splitDest_joinParts_none : splitDest (joinParts none comp jump) = (none, joinParts none comp jump) := by
  have noMark : '=' ∉ joinParts none comp jump := by
    cases jump with
    | none => simpa [joinParts] using hcomp.not_mem (by decide)
    | some j => simpa [joinParts] using And.intro (hcomp.not_mem (by decide)) ((hjump j rfl).not_mem (by decide))
  rw [splitDest, splitAtChar_of_not_mem noMark]

include hdest hcomp hjump in
theorem splitDest_joinParts : splitDest (joinParts dest comp jump) = (dest, joinParts none comp jump) := by
  cases dest with
  | none => exact splitDest_joinParts_none hcomp hjump
  | some d =>
    have shape : joinParts (some d) comp jump = d ++ '=' :: joinParts none comp jump := by simp [joinParts]
    rw [splitDest, shape, splitAtChar_append ((hdest d rfl).not_mem (by decide))]

include hcomp in
theorem splitAtChar_joinParts : splitAtChar ';' (joinParts none comp jump) = (comp, jump) := by
  have noMark : ';' ∉ comp := hcomp.not_mem (by decide)
  cases jump with
  | none => simpa [joinParts] using splitAtChar_of_not_mem noMark
  | some j => exact splitAtChar_append noMark j

include hdest hcomp hjump

/-- The texts of a joined body are the texts it was joined from. -/
theorem decodeC_joinParts : decodeC (joinParts dest comp jump) = decodeParts dest comp jump := by
  rw [decodeC_eq_decodeParts, splitDest_joinParts hdest hcomp hjump, splitAtChar_joinParts hcomp]

theorem mem_joinParts {c : Char} (mem : c ∈ joinParts dest comp jump) :
    fieldChar c = true ∨ c = '=' ∨ c = ';' := by
  simp only [joinParts, List.mem_append] at mem
  rcases mem with (mem | mem) | mem
  · cases dest with
    | none => cases mem
    | some d => exact (List.mem_append.mp mem).imp (hdest d rfl c) (fun eq => .inl (List.mem_singleton.mp eq))
  · exact .inl (hcomp c mem)
  · cases jump with
    | none => cases mem
    | some j => exact (List.mem_cons.mp mem).symm.imp (hjump j rfl c) .inr

/-- A joined body stands alone as an instruction line. -/
theorem decodeAssembly_joinParts {i : Instr} (h : decodeParts dest comp jump = some i) (t : SymbolTable) :
    decodeAssembly (joinParts dest comp jump) t = .ok (i, t) := by
  refine decodeAssembly_code (fun c mem => ?_) (fun mem => ?_)
    ((decodeC_joinParts hdest hcomp hjump).trans h) t
  · rcases mem_joinParts hdest hcomp hjump mem with field | rfl | rfl
    · exact plainChar_of_fieldChar field
    all_goals decide
  · rcases mem_joinParts hdest hcomp hjump mem with field | eq | eq
    · exact absurd field (by decide)
    all_goals exact absurd eq (by decide)

end Parts

/-! ## The round trip (rule R128) -/

section CText

variable {comp : BitVec 7} {text : Text} (h : spelling compTable comp = some text) (dest : Dest) (jump : Jump)
  (t : SymbolTable)
include h

/-- A C-instruction prints as its spelled fields (rule R127). -/
theorem toAssembly_cInstr :
    toAssembly (cInstr (YSource.ofComp comp) (AluCtl.ofComp comp) dest jump) t =
      some (joinParts (spelling destTable dest) text (spelling jumpTable jump)) := by
  rw [toAssembly, encode_cInstr, assemblyOfWord, top_cWord _ _ _ _ _ 2, top_cWord _ _ _ _ _ 1,
    top_cWord _ _ _ _ _ 0, compOf_cWord_ofComp, destOf_cWord, jumpOf_cWord, h]
  rfl

theorem decodeParts_spellings :
    decodeParts (spelling destTable dest) text (spelling jumpTable jump) =
      some (cInstr (YSource.ofComp comp) (AluCtl.ofComp comp) dest jump) := by
  simp only [decodeParts, faithful_compTable.spelled_of_spelling h,
    faithful_destTable.elim_spelling eq_of_spelling_destTable_eq_none,
    faithful_jumpTable.elim_spelling eq_of_spelling_jumpTable_eq_none]

theorem decodeAssembly_toAssembly_cInstr :
    decodeAssembly (joinParts (spelling destTable dest) text (spelling jumpTable jump)) t =
      .ok (cInstr (YSource.ofComp comp) (AluCtl.ofComp comp) dest jump, t) :=
  decodeAssembly_joinParts (fun _ => faithful_destTable.fieldText_of_spelling)
    (faithful_compTable.fieldText_of_spelling h) (fun _ => faithful_jumpTable.fieldText_of_spelling)
    (decodeParts_spellings h dest jump) t

end CText

/-- Settles O53: a decoded line is an A-instruction, printed by a name its table binds to the value or in decimal, or a
C-instruction, printed by its fields' spellings; each text decodes to what it was printed from. -/
theorem assemblyRoundTrip : Obligations.AssemblyRoundTrip := by
  unfold Obligations.AssemblyRoundTrip
  refine ⟨fun line t t' i wf decoded => ?_, fun w i => encode_of_decodeBinary_ok⟩
  rcases decodeAssembly_cases decoded with ⟨operand, decodedAt⟩ | ⟨⟨body, decodedC⟩, rfl⟩
  · obtain ⟨⟨v, rfl⟩, wf'⟩ := decodeAt_ok wf decodedAt
    exact ⟨_, toAssembly_atValue v t', decodeAssembly_toAssembly_atValue wf' v⟩
  · obtain ⟨text, comp, dest, jump, spelled, rfl⟩ := exists_spelled_of_decodeC decodedC
    have h := faithful_compTable.spelling_of_spelled spelled
    exact ⟨_, toAssembly_cInstr h dest jump t', decodeAssembly_toAssembly_cInstr h dest jump t'⟩

end Sys2Proof.Machine
end

section
/-! The flags of a word and the ALU's stages (rules R161 to R166), then the statements of 40_alu.md. -/

namespace Sys2Proof.Machine

/-! ## The flags (rules R165 and R166) -/

@[simp] theorem zeroFlag_eq_true_iff {out : Word} : zeroFlag out = true ↔ out = 0x0000#16 := beq_iff_eq

theorem zeroFlag_eq_true_iff_toInt {out : Word} : zeroFlag out = true ↔ out.toInt = 0 :=
  zeroFlag_eq_true_iff.trans BitVec.toInt_inj.symm

/-- Bit 15 is the sign bit. -/
theorem negFlag_eq_msb (out : Word) : negFlag out = out.msb := (BitVec.msb_eq_getLsbD_last out).symm

@[simp] theorem negFlag_eq_true_iff {out : Word} : negFlag out = true ↔ out.toInt < 0 := by
  rw [negFlag_eq_msb, BitVec.msb_eq_toInt, decide_eq_true_iff]

theorem flags_clear_iff {out : Word} : (zeroFlag out = false ∧ negFlag out = false) ↔ 0 < out.toInt := by
  rw [← Bool.not_eq_true, ← Bool.not_eq_true, zeroFlag_eq_true_iff_toInt, negFlag_eq_true_iff]
  omega

theorem not_zeroFlag_and_negFlag (out : Word) : ¬ (zeroFlag out = true ∧ negFlag out = true) := by
  rw [zeroFlag_eq_true_iff_toInt, negFlag_eq_true_iff]
  omega

/-! ## The ALU by its fields -/

section Alu

variable (x y : Word) (ctl : AluCtl)

@[simp] theorem alu_out : (alu x y ctl).out = aluOut x y ctl := rfl
@[simp] theorem alu_zr : (alu x y ctl).zr = zeroFlag (alu x y ctl).out := rfl
@[simp] theorem alu_ng : (alu x y ctl).ng = negFlag (alu x y ctl).out := rfl

end Alu

/-- The output determines the whole result. -/
theorem alu_eq_of_out_eq {x y x' y' : Word} {ctl ctl' : AluCtl} (h : (alu x' y' ctl').out = (alu x y ctl).out) :
    alu x' y' ctl' = alu x y ctl := by
  rw [alu_out, alu_out] at h
  rw [alu, alu, h]

/-- Settles O8: each clause is a law of the flags at the ALU's output. -/
theorem aluFlagsOfOutput : Obligations.AluFlagsOfOutput := by
  unfold Obligations.AluFlagsOfOutput
  intro x y ctl
  simp only [alu_zr, alu_ng]
  exact ⟨zeroFlag_eq_true_iff, rfl, negFlag_eq_true_iff, flags_clear_iff, not_zeroFlag_and_negFlag _,
    fun _ _ _ => alu_eq_of_out_eq⟩

/-! ## The four stages (rules R161 to R164) -/

/-- The spec's complement, the xor with 0xFFFF. -/
theorem xor_ffff_eq_not (v : Word) : v ^^^ 0xFFFF#16 = ~~~v := BitVec.xor_allOnes

/-- The sum of words is the sum of their numbers modulo 65536. -/
theorem combine_add (x y : Word) : combine true x y = BitVec.ofNat 16 ((x.toNat + y.toNat) % 65536) :=
  BitVec.eq_of_toNat_eq (by simp [combine])

/-- Stage 3 in the spec's spelling, the sum on naturals (rule R163). -/
theorem combine_eq_ofNat_mod (f : Bool) (x y : Word) :
    combine f x y = if f then BitVec.ofNat 16 ((x.toNat + y.toNat) % 65536) else x &&& y := by
  cases f
  case false => rfl
  case true => exact combine_add x y

/-- Settles O7: the model's stages are the spec's once complement is the xor and the sum is that of naturals. -/
theorem aluFourStages : Obligations.AluFourStages := by
  unfold Obligations.AluFourStages
  intro x y zx nx zy ny f no
  simp only [alu_out, aluOut, zeroThenNot, combine_eq_ofNat_mod, xor_ffff_eq_not]

end Sys2Proof.Machine
end

section
/-! The A-instruction (rule R200): its constant is its word, its commit, and the data address of its tick, then the
statement of 41_a_instruction.md. -/

namespace Sys2Proof.Machine

/-- The zero-extended constant, in the spec's spelling `zext_16` on the number (rule R104). -/
theorem immediate_eq_ofNat (v : Addr) : immediate v = BitVec.ofNat 16 v.toNat := (BitVec.ofNat_toNat 16 v).symm

/-- The word of `@v` is the constant that it loads: bit 15 is 0 in both. -/
theorem encode_atValue_eq_immediate (v : Addr) : encode (.atValue v) = immediate v :=
  (BitVec.setWidth_eq_append (by decide)).symm

theorem immediate_toNat (v : Addr) : (immediate v).toNat = v.toNat := BitVec.toNat_setWidth_of_le (by decide)

/-- Without a jump the program counter goes to 0 under reset and else advances. -/
theorem pcNext_of_not_load (pc input : Word) (reset : Bool) :
    pcNext pc input false true reset = if reset then 0x0000#16 else pc + 1 := by
  cases reset
  case false => exact pcNext_of_inc pc input
  case true => exact pcNext_of_reset pc input false true

/-- The data address is the output of the A cell, which returns its old value whatever the tick loads (rule R309). -/
theorem cpuTick_addressM (inM w : Word) (reset : Bool) (s : State) :
    (cpuTick inM w reset s).1.addressM = s.addressM := rfl

/-- Settles O20: `exec` is the A-commit of the zero-extended constant, which is also the instruction's word. -/
theorem atValueLoadsA : Obligations.AtValueLoadsA := by
  unfold Obligations.AtValueLoadsA
  intro v s
  rw [← immediate_eq_ofNat, ← pcNext_of_not_load s.pc s.a]
  refine ⟨exec_atValue v s, ?bit15, ?word, fun inM reset => cpuTick_addressM inM _ reset s⟩
  case bit15 => rw [← encode_atValue_eq_immediate, getLsbD_15_encode_atValue]
  case word => rw [encode_atValue_eq_immediate, immediate_toNat]

end Sys2Proof.Machine
end

section
/-! The destinations of a C word (rules R260 and R270): the state after a C word by its bits, then the statements of
43_c_instruction_dest.md. -/

namespace Sys2Proof

/-! ## The fields of a word under a mask, and the destination bits -/

section Mask

variable (w : Word) {mask : Word}

theorem ySourceOf_and (h : mask.getLsbD 12 = true) : ySourceOf (w &&& mask) = ySourceOf w := by
  rw [ySourceOf, BitVec.getLsbD_and, h, Bool.and_true, ySourceOf]

theorem ctlOf_and (h : mask.extractLsb' 6 6 = BitVec.allOnes 6) : ctlOf (w &&& mask) = ctlOf w := by
  rw [ctlOf, BitVec.extractLsb'_and, h, BitVec.and_allOnes, ctlOf]

theorem jumpOf_and (h : mask.extractLsb' 0 3 = BitVec.allOnes 3) : jumpOf (w &&& mask) = jumpOf w := by
  rw [jumpOf, BitVec.extractLsb'_and, h, BitVec.and_allOnes, jumpOf]

@[simp] theorem destOf_toA : (destOf w).toA = w.getLsbD 5 := by simp [destOf, Dest.ofCode]
@[simp] theorem destOf_toD : (destOf w).toD = w.getLsbD 4 := by simp [destOf, Dest.ofCode]
@[simp] theorem destOf_toM : (destOf w).toM = w.getLsbD 3 := by simp [destOf, Dest.ofCode]

end Mask

/-- The bits of a word outside the destination field (rule R103). -/
def nonDestMask : Word := 0xFFC7#16

/-- Words that differ in the destination bits alone have the same format and the same other fields. -/
theorem fields_eq_of_and_nonDestMask_eq {w w' : Word} (h : w &&& nonDestMask = w' &&& nonDestMask) :
    w'.getLsbD 15 = w.getLsbD 15 ∧ ySourceOf w' = ySourceOf w ∧ ctlOf w' = ctlOf w ∧ jumpOf w' = jumpOf w := by
  refine ⟨?format, ?y, ?ctl, ?jump⟩
  case format => simpa [nonDestMask] using congrArg (·.getLsbD 15) h.symm
  case y => rw [← ySourceOf_and w' (mask := nonDestMask) rfl, ← h, ySourceOf_and w rfl]
  case ctl => rw [← ctlOf_and w' (mask := nonDestMask) rfl, ← h, ctlOf_and w rfl]
  case jump => rw [← jumpOf_and w' (mask := nonDestMask) rfl, ← h, jumpOf_and w rfl]

end Sys2Proof

namespace Sys2Proof.Machine

open Sys2Proof.Statement

/-! ## What a commit leaves readable -/

theorem State.commitC_readMem (s : State) (r : AluResult) (dest : Dest) (jump : Jump) (addr : Addr) :
    (s.commitC r dest jump).readMem addr =
      if dest.toM then (s.writeMem s.addressM r.out).readMem addr else s.readMem addr := by
  split
  case isTrue h => exact s.commitC_readMem_of_toM r jump h addr
  case isFalse h => exact s.commitC_readMem_of_not_toM r jump (Bool.eq_false_iff.mpr h) addr

theorem State.commitA_readMem (s : State) (v : Word) (addr : Addr) : (s.commitA v).readMem addr = s.readMem addr := rfl

/-! ## The state after a C word -/

/-- What the ALU gives for a C word's fields. -/
def State.wordResult (s : State) (w : Word) : AluResult := alu s.xOperand (s.yOperand (ySourceOf w)) (ctlOf w)

/-- The commit of a C word by its fields. -/
def State.commitWord (s : State) (w : Word) : State := s.commitC (s.wordResult w) (destOf w) (jumpOf w)

theorem exec_decodeWord_eq_commitWord {w : Word} (isC : w.getLsbD 15 = true) (s : State) :
    exec (decodeWord w) s = .next (s.commitWord w) :=
  (exec_decodeWord_of_isC isC s).trans (execC_next _ _ _ _ s)

section CommitWord

variable (s : State) (w : Word)

theorem State.yOperand_ySourceOf : s.yOperand (ySourceOf w) = yOf s (w.getLsbD 12) := by
  rw [ySourceOf]
  cases w.getLsbD 12 <;> rfl

/-- The output in the statements' spelling. -/
@[simp] theorem State.wordResult_out : (s.wordResult w).out = wordOut w s := by
  rw [State.wordResult, State.yOperand_ySourceOf, wordOut]
  rfl

@[simp] theorem State.commitWord_a : (s.commitWord w).a = if w.getLsbD 5 then wordOut w s else s.a := by
  simp [State.commitWord]

@[simp] theorem State.commitWord_d : (s.commitWord w).d = if w.getLsbD 4 then wordOut w s else s.d := by
  simp [State.commitWord]

theorem State.commitWord_pc : (s.commitWord w).pc =
    pcNext s.pc s.a (jumpTaken (jumpOf w) (s.wordResult w).zr (s.wordResult w).ng) true s.resetIn := rfl

/-- The store goes to the old A (rule R270). -/
theorem State.commitWord_readMem (addr : Addr) : (s.commitWord w).readMem addr =
    if w.getLsbD 3 then (s.writeMem (low15 s.a) (wordOut w s)).readMem addr else s.readMem addr := by
  rw [State.commitWord, State.commitC_readMem, State.wordResult_out, destOf_toM]
  rfl

end CommitWord

/-- The result depends on the word by its operand select and its control bits alone. -/
theorem State.wordResult_congr (s : State) {w w' : Word} (y : ySourceOf w' = ySourceOf w) (ctl : ctlOf w' = ctlOf w) :
    s.wordResult w' = s.wordResult w := by
  rw [State.wordResult, y, ctl, State.wordResult]

/-! ## The statements -/

/-- Settles O35: a C word's commit field by field; the destination bits enter neither the result nor the jump. -/
theorem destinationsAreIndependent : Obligations.DestinationsAreIndependent := by
  unfold Obligations.DestinationsAreIndependent
  refine ⟨fun w s isC => ?own_bit, fun w w' s isC same => ?same_output, fun w s isA => ?a_word⟩
  case own_bit =>
    exact ⟨_, exec_decodeWord_eq_commitWord isC s, s.commitWord_a w, s.commitWord_d w, s.commitWord_readMem w⟩
  case same_output =>
    obtain ⟨format, y, ctl, jump⟩ := fields_eq_of_and_nonDestMask_eq same
    have result : s.wordResult w' = s.wordResult w := s.wordResult_congr y ctl
    refine ⟨?out, _, _, exec_decodeWord_eq_commitWord isC s, exec_decodeWord_eq_commitWord (format.trans isC) s, ?pc⟩
    case out => rw [← State.wordResult_out, result, State.wordResult_out]
    case pc => rw [State.commitWord_pc, result, jump, State.commitWord_pc]
  case a_word =>
    exact ⟨_, exec_decodeWord_of_isA isA s, s.commitA_d _, s.commitA_readMem _⟩

/-- Settles O36: with both bits set the new A is the output, and memory is that after its store at the old A, which is
discarded from the Keyboard on. -/
theorem storeGoesToTheOldA : Obligations.StoreGoesToTheOldA := by
  unfold Obligations.StoreGoesToTheOldA
  intro w s inv isC toA toM
  have newA : (s.commitWord w).a = wordOut w s := (s.commitWord_a w).trans (if_pos toA)
  have stored (b : Addr) : (s.commitWord w).readMem b = (s.writeMem (low15 s.a) (wordOut w s)).readMem b :=
    (s.commitWord_readMem w b).trans (if_pos toM)
  refine ⟨_, exec_decodeWord_eq_commitWord isC s, newA, fun storable => ?_, fun discarded => ?_, fun b other => ?_⟩
  · rw [stored, newA]
    exact inv.readMem_writeMem_same _ storable
  · rw [stored, s.writeMem_of_kbdAddr_le _ discarded]
  · rw [stored, s.readMem_writeMem_of_ne _ other]

end Sys2Proof.Machine
end

section
/-! The CPU cycle (rules R309, R311 and R372): the outputs of one CPU tick, and the tick with its reset input at 1, then
the statements of 45_cpu_cycle.md. -/

namespace Sys2Proof.Machine

/-! ## The outputs of the CPU (rule R309) -/

section Outputs

variable (inM : Word) {w : Word} (reset : Bool) (s : State)

/-- The control code forced in an A word passes x through, whatever y is: x and the word of all ones (rule R173). -/
theorem alu_aInstrCtl_out (x y : Word) : (alu x y aInstrCtl).out = x :=
  calc (alu x y aInstrCtl).out
    _ = x &&& ~~~0x0000#16 := rfl
    _ = x := by rw [BitVec.not_zero, BitVec.and_allOnes]

theorem decodeSignals_ctl_of_isC (isC : w.getLsbD 15 = true) : (decodeSignals w).ctl = ctlOf w := if_pos isC

theorem decodeSignals_ctl_of_isA (isA : w.getLsbD 15 = false) : (decodeSignals w).ctl = aInstrCtl :=
  if_neg (Bool.eq_false_iff.mp isA)

theorem decodeSignals_writeM (w : Word) : (decodeSignals w).writeM = (w.getLsbD 15 && w.getLsbD 3) :=
  congrArg (w.getLsbD 15 && ·) (destOf_toM w)

/-- The CPU's y operand by the `a` bit of the word (rule R304). -/
theorem cpuTick_outM (w : Word) :
    (cpuTick inM w reset s).1.outM = (alu s.d (if w.getLsbD 12 then inM else s.a) (decodeSignals w).ctl).out := by
  simp only [cpuTick, decodeSignals, ySourceOf]
  cases w.getLsbD 12 <;> rfl

theorem cpuTick_outM_of_isC (isC : w.getLsbD 15 = true) :
    (cpuTick inM w reset s).1.outM = (alu s.d (if w.getLsbD 12 then inM else s.a) (ctlOf w)).out := by
  rw [cpuTick_outM, decodeSignals_ctl_of_isC isC]

theorem cpuTick_outM_of_isA (isA : w.getLsbD 15 = false) : (cpuTick inM w reset s).1.outM = s.d := by
  rw [cpuTick_outM, decodeSignals_ctl_of_isA isA, alu_aInstrCtl_out]

/-- The program counter's cell puts out its old value, whatever the tick loads. -/
theorem cpuTick_pc (w : Word) : (cpuTick inM w reset s).1.pc = low15 s.pc := rfl

end Outputs

/-- Settles O21: the decoder's control code and store bit by the format bit, and the two cells' old values. -/
theorem cpuOutputs : Obligations.CpuOutputs := by
  unfold Obligations.CpuOutputs
  intro inM w reset s
  exact ⟨cpuTick_outM_of_isC inM reset s, cpuTick_outM_of_isA inM reset s, decodeSignals_writeM w,
    cpuTick_addressM inM w reset s, cpuTick_pc inM reset s w⟩

/-! ## The tick under reset (rules R311 and R372) -/

/-- The state with the reset input at 1. -/
def State.raiseReset (s : State) : State := { s with resetIn := true }

/-- What a raised reset input makes of the state after a tick. -/
def State.restarted (t : State) : State := { t with pc := 0x0000#16, resetIn := true }

theorem State.raiseReset_commitA (s : State) (v : Word) : s.raiseReset.commitA v = (s.commitA v).restarted := rfl

/-- Reset enters a C word's commit by the program counter alone, with or without a store. -/
theorem State.raiseReset_commitC (s : State) (r : AluResult) (dest : Dest) (jump : Jump) :
    s.raiseReset.commitC r dest jump = (s.commitC r dest jump).restarted := by
  unfold State.commitC
  cases dest.toM <;> rfl

/-- The tick with the reset input at 1, from the tick without. -/
theorem step_raiseReset {s t : State} (h : step s = .next t) : step s.raiseReset = .next t.restarted := by
  rcases step_cases s with ⟨isA, hs⟩ | ⟨isC, hs⟩
  all_goals
    rw [hs] at h
    cases h
  case inl => exact exec_decodeWord_of_isA isA s.raiseReset.beginTick
  case inr =>
    rw [← State.raiseReset_commitC]
    exact exec_decodeWord_of_isC isC s.raiseReset.beginTick

/-- Every tick completes, and no tick writes the ROM. -/
theorem exists_step_next (s : State) : ∃ t, step s = .next t ∧ t.rom = s.rom := by
  rcases step_cases s with ⟨_, hs⟩ | ⟨_, hs⟩
  · exact ⟨_, hs, State.commitA_rom _ _⟩
  · exact ⟨_, hs, State.commitC_rom _ _ _ _⟩

theorem State.restarted_fetch (t : State) : t.restarted.fetch = t.romRead 0#15 := rfl

/-- Settles O18: reset turns the state after the tick into the restarted one, which fetches from the unchanged ROM. -/
theorem resetInputClearsOnlyThePc : Obligations.ResetInputClearsOnlyThePc := by
  unfold Obligations.ResetInputClearsOnlyThePc
  intro s
  obtain ⟨t, ht, rom⟩ := exists_step_next { s with resetIn := false }
  have fetch : t.restarted.fetch = s.romRead 0#15 := by
    rw [State.restarted_fetch, State.romRead, rom, State.romRead]
  exact ⟨t, ht, step_raiseReset (s := { s with resetIn := false }) ht, fetch⟩

end Sys2Proof.Machine
end

section
/-! Stores above the Screen, cold reset and the entry point (rules R371, R373 and R388): what a store there leaves
readable, and what host operations keep once a program is loaded, then the statements of 70_reset_and_hazards.md. -/

namespace Sys2Proof.Machine

open Sys2Proof.Statement

/-! ## Stores to the Keyboard and the void, and bit 15 of an address (rule R388) -/

/-- Bit 15 of a word is no part of the address in it. -/
@[simp] theorem low15_xor_8000 (w : Word) : low15 (w ^^^ 0x8000#16) = low15 w :=
  calc low15 (w ^^^ 0x8000#16)
    _ = low15 w ^^^ 0#15 := BitVec.extractLsb'_xor
    _ = low15 w := BitVec.xor_zero

/-- A C word whose old A is at the Keyboard or above changes no data word, whatever its destinations. -/
theorem State.commitWord_readMem_of_kbdAddr_le {s : State} (h : Config.kbdAddr ≤ (low15 s.a).toNat) (w : Word)
    (addr : Addr) : (s.commitWord w).readMem addr = s.readMem addr := by
  rw [State.commitWord_readMem, s.writeMem_of_kbdAddr_le _ h, ite_self]

/-- Settles O13: the store is discarded, so the Keyboard and the void read as in the state before; and a data or ROM
address is the low 15 bits of its word. -/
theorem keyboardAndVoidDoNotHoldStores : Obligations.KeyboardAndVoidDoNotHoldStores := by
  unfold Obligations.KeyboardAndVoidDoNotHoldStores
  refine ⟨fun w s isC _ above => ?store, fun s => ⟨?operand, ?address, ?target⟩⟩
  case store =>
    have kept := State.commitWord_readMem_of_kbdAddr_le above w
    refine ⟨_, exec_decodeWord_eq_commitWord isC s, kept, fun kbd => ?_, fun void => ?_⟩
    · rw [kept, s.readMem_of_keyboard (route_of_eq_kbdAddr kbd)]
    · rw [kept, s.readMem_of_void (route_of_kbdAddr_lt void)]
  case operand => exact congrArg s.readMem (low15_xor_8000 s.a)
  case address => exact low15_xor_8000 s.a
  case target => exact congrArg s.romRead (low15_xor_8000 s.a)

/-! ## What host operations keep after the load -/

/-- What one host operation keeps, every run of them keeps. -/
theorem hostRun_induction {P : State → Prop}
    (keeps : ∀ {e : HostEvent} {s t : State}, P s → hostStep e s = .next t → P t)
    {es : List HostEvent} {s t : State} (hs : P s) (h : hostRun es s = .next t) : P t := by
  induction es generalizing s with
  | nil =>
    cases h
    exact hs
  | cons e es ih =>
    rw [hostRun] at h
    split at h
    next u hu => exact ih (keeps hs hu) h
    all_goals cases h

/-- The ROM holds a program and `loadProgram` is closed. -/
structure State.HoldsProgram (rom : Memory) (s : State) : Prop where
  rom : s.rom = rom
  closed : s.loadOpen = false

theorem step_holdsProgram {s t : State} (h : step s = .next t) : t.HoldsProgram s.rom := by
  rcases step_cases s with ⟨_, hs⟩ | ⟨_, hs⟩
  · cases hs.symm.trans h
    exact ⟨State.commitA_rom _ _, State.commitA_loadOpen _ _⟩
  · cases hs.symm.trans h
    exact ⟨State.commitC_rom _ _ _ _, State.commitC_loadOpen _ _ _ _⟩

theorem loadProgram_of_closed {s : State} (closed : s.loadOpen = false) (words : List Word) :
    loadProgram words s = .refused .loadClosed := by
  rw [loadProgram, closed]
  rfl

theorem State.HoldsProgram.of_hostStep {rom : Memory} {e : HostEvent} {s t : State} (hs : s.HoldsProgram rom)
    (h : hostStep e s = .next t) : t.HoldsProgram rom := by
  cases e with
  | loadProgram words => cases (loadProgram_of_closed hs.closed words).symm.trans h
  | tick reset => exact hs.rom ▸ step_holdsProgram (s := { s with resetIn := reset }) h
  | poke addr word =>
    cases h
    exact ⟨hs.rom, hs.closed⟩
  | setKeyboard word =>
    cases h
    exact ⟨hs.rom, hs.closed⟩
  | coldReset =>
    cases h
    exact ⟨hs.rom, hs.closed⟩

/-! ## Cold reset (rule R371) -/

/-- The state after creation and a load that fills the ROM. -/
def State.loaded (rom : Memory) : State := { State.reset with rom := rom, loadOpen := false }

theorem eq_loaded_of_loadProgram_reset {words : List Word} {s : State}
    (h : hostStep (.loadProgram words) State.reset = .next s) : s = State.loaded (Memory.writeList [] 0 words) := by
  have load : loadProgram words State.reset = .next s := h
  rw [loadProgram, if_neg (by decide)] at load
  split at load
  case isTrue => cases load
  case isFalse =>
    cases load
    rfl

theorem State.loaded_holdsProgram (rom : Memory) : (State.loaded rom).HoldsProgram rom := ⟨rfl, rfl⟩

/-- Cold reset leaves the program, and sets all else to its creation value but the next tick's reset input (log 20). -/
theorem State.HoldsProgram.coldReset_eq_loaded {rom : Memory} {s : State} (h : s.HoldsProgram rom) :
    { s.coldReset with resetIn := false } = State.loaded rom :=
  State.ext rfl rfl rfl rfl rfl rfl h.rom rfl h.closed

/-- Settles O19: a run after the load keeps the program in the ROM and the load closed, and cold reset sets the rest. -/
theorem coldResetRestoresTheLoadedState : Obligations.ColdResetRestoresTheLoadedState := by
  unfold Obligations.ColdResetRestoresTheLoadedState
  refine ⟨fun s => ?zeroed, fun words s₀ t es load run => ?restored⟩
  case zeroed => exact ⟨rfl, rfl, rfl, fun _ => rfl, fun _ => rfl, rfl, s.coldReset_rom⟩
  case restored =>
    obtain rfl := eq_loaded_of_loadProgram_reset load
    have kept := hostRun_induction State.HoldsProgram.of_hostStep (State.loaded_holdsProgram _) run
    exact kept.coldReset_eq_loaded

/-! ## The entry point (rule R373) -/

theorem State.fetch_of_pc_eq_zero {s : State} (h : s.pc = 0x0000#16) : s.fetch = s.romRead 0#15 := by
  rw [State.fetch, h]
  rfl

/-- A tick under reset ends in a restarted state: raising its reset input again changes nothing. -/
theorem step_restarted_of_resetIn {s t : State} (hr : s.resetIn = true) (h : step s = .next t) : t.restarted = t := by
  have raised : s.raiseReset = s := State.ext rfl rfl rfl rfl rfl rfl rfl hr.symm rfl
  have again : step s = .next t.restarted := raised ▸ step_raiseReset h
  exact Host.Outcome.next.inj (again.symm.trans h)

/-- Settles O17: the program counter is 0 after creation, load and cold reset, and a tick under reset restarts. -/
theorem entryPointIsRomZero : Obligations.EntryPointIsRomZero := by
  unfold Obligations.EntryPointIsRomZero
  refine ⟨fun rom => ?creation, fun words s load => ?load, fun s => ?cold_reset, fun s t hr ht => ?reset_tick⟩
  case creation => exact State.fetch_of_pc_eq_zero rfl
  case load =>
    rw [eq_loaded_of_loadProgram_reset load]
    exact State.fetch_of_pc_eq_zero rfl
  case cold_reset => exact State.fetch_of_pc_eq_zero rfl
  case reset_tick =>
    rw [← step_restarted_of_resetIn hr ht]
    exact t.restarted_fetch

end Sys2Proof.Machine
end

section
/-! The binary codec as a bijection (rules R109 and R111): the decoder undoes the encoder, and the encoder the
decoder. -/

namespace Sys2Proof

/-- The CPU's decoder undoes the encoder: on the A format, on each malformed class, and on the 128 well-formed C
constructors, whose words are all one C format. -/
theorem decodeWord_encode (i : Instr) : decodeWord (encode i) = i := by
  cases i
  case atValue value => exact decodeWord_atValue value
  case malformed00 y ctl dest jump => exact decodeWord_malformed00 y ctl dest jump
  case malformed01 y ctl dest jump => exact decodeWord_malformed01 y ctl dest jump
  case malformed10 y ctl dest jump => exact decodeWord_malformed10 y ctl dest jump
  all_goals exact decodeWord_cWord _ _ _ _

/-- Settles O1: by the format of the instruction. -/
theorem decodeOfEncodeIsIdentity : Obligations.DecodeOfEncodeIsIdentity := by
  unfold Obligations.DecodeOfEncodeIsIdentity
  exact decodeWord_encode

/-- Settles O2: a word is its top bits and its fields, which the encoder puts back in their places. -/
theorem encodeOfDecodeIsIdentity : Obligations.EncodeOfDecodeIsIdentity := by
  unfold Obligations.EncodeOfDecodeIsIdentity
  exact encode_decodeWord

/-- Settles O5: the decoder evaluated on each of the seven words. -/
theorem sampleWordsDecode : Obligations.SampleWordsDecode := by
  unfold Obligations.SampleWordsDecode
  exact ⟨rfl, rfl, rfl, rfl, rfl, rfl, rfl⟩

end Sys2Proof
end

section
/-! The step against the tick of the raw word, the program counter's top bit and the invariant (rules R30, R303, R308,
R310): what the tick of each format is, what a step makes of another program counter, and what every operation keeps,
then the statements of 10_state.md and 45_cpu_cycle.md about them. -/

namespace Sys2Proof.Machine

/-! ## The decoder's signals and the tick made of them (rules R303, R308 and R310) -/

/-- In an A word the load bits are A's alone and the ALU passes D. -/
theorem decodeSignals_of_isA {w : Word} (isA : w.getLsbD 15 = false) :
    decodeSignals w =
      { isC := false, value := valueOf w, y := ySourceOf w, ctl := aInstrCtl, dest := destOf w, jump := jumpOf w,
        loadA := true, loadD := false, writeM := false } := by
  rw [decodeSignals, isA]
  rfl

/-- In a C word the signals are the fields, each write by its destination bit. -/
theorem decodeSignals_of_isC {w : Word} (isC : w.getLsbD 15 = true) :
    decodeSignals w =
      { isC := true, value := valueOf w, y := ySourceOf w, ctl := ctlOf w, dest := destOf w, jump := jumpOf w,
        loadA := (destOf w).toA, loadD := (destOf w).toD, writeM := (destOf w).toM } := by
  rw [decodeSignals, isC]
  rfl

theorem computerTick_of_isA {s : State} (isA : s.fetch.getLsbD 15 = false) :
    computerTick s.resetIn s = s.commitA (immediate (valueOf s.fetch)) := by
  rw [computerTick, cpuTick, decodeSignals_of_isA isA]
  rfl

/-- The tick of a C word is its commit, the store made last or not at all. -/
theorem computerTick_of_isC {s : State} (isC : s.fetch.getLsbD 15 = true) :
    computerTick s.resetIn s = s.commitWord s.fetch := by
  rw [computerTick, cpuTick, decodeSignals_of_isC isC, State.commitWord, State.commitC]
  unfold State.memTick
  cases (destOf s.fetch).toM <;> rfl

/-! ## The load flag and the program counter enter no other field -/

theorem State.beginTick_commitA (s : State) (v : Word) : s.beginTick.commitA v = (s.commitA v).beginTick := rfl

theorem State.beginTick_commitWord (s : State) (w : Word) :
    s.beginTick.commitWord w = (s.commitWord w).beginTick := by
  unfold State.commitWord State.commitC
  cases (destOf w).toM <;> rfl

/-- One tick in the terms of the words' commits. -/
theorem step_eq_of_isA {s : State} (isA : s.fetch.getLsbD 15 = false) :
    step s = .next (s.commitA (immediate (valueOf s.fetch))).beginTick :=
  exec_decodeWord_of_isA isA s.beginTick

theorem step_eq_of_isC {s : State} (isC : s.fetch.getLsbD 15 = true) :
    step s = .next (s.commitWord s.fetch).beginTick := by
  rw [← State.beginTick_commitWord]
  exact exec_decodeWord_eq_commitWord isC s.beginTick

/-- Settles O44: for either format the tick of the raw word is the commit that the instruction's meaning makes. -/
theorem stepIsComputerTick : Obligations.StepIsComputerTick := by
  unfold Obligations.StepIsComputerTick
  intro s
  cases format : s.fetch.getLsbD 15
  case false => rw [step_eq_of_isA format, computerTick_of_isA format, State.beginTick]
  case true => rw [step_eq_of_isC format, computerTick_of_isC format, State.beginTick]

/-! ## Another program counter (rule R30) -/

/-- The state with its program counter replaced. -/
def State.withPc (s : State) (pc : Word) : State := { s with pc := pc }

theorem State.withPc_commitA (s : State) (pc v : Word) :
    (s.withPc pc).commitA v = (s.commitA v).withPc (pcNext pc s.a false true s.resetIn) := rfl

theorem State.withPc_commitC (s : State) (pc : Word) (r : AluResult) (dest : Dest) (jump : Jump) :
    (s.withPc pc).commitC r dest jump =
      (s.commitC r dest jump).withPc (pcNext pc s.a (jumpTaken jump r.zr r.ng) true s.resetIn) := by
  unfold State.commitC
  cases dest.toM <;> rfl

/-- The increment carries nothing down from bit 15. -/
theorem low15_add_one (w : Word) : low15 (w + 1) = low15 w + 1 :=
  calc low15 (w + 1)
    _ = (w + 1).setWidth 15 := (BitVec.setWidth_eq_extractLsb' (by decide)).symm
    _ = w.setWidth 15 + 1 := BitVec.setWidth_add w 1 (by decide)
    _ = low15 w + 1 := congrArg (· + 1) (BitVec.setWidth_eq_extractLsb' (by decide))

/-- Counters that agree below bit 15 still do after the tick's update: 0, the target, or the increment of each. -/
theorem low15_pcNext_congr {pc pc' : Word} (same : low15 pc' = low15 pc) (input : Word) (load reset : Bool) :
    low15 (pcNext pc' input load true reset) = low15 (pcNext pc input load true reset) := by
  cases reset
  case true => rfl
  case false =>
    cases load
    case true => rfl
    case false => rw [pcNext_of_inc, pcNext_of_inc, low15_add_one, low15_add_one, same]

/-- A step from another program counter with the same low 15 bits differs in the program counter alone, and there at
most in bit 15. -/
theorem step_withPc {s s' : State} {pc : Word} (same : low15 pc = low15 s.pc) (h : step s = .next s') :
    ∃ pc', low15 pc' = low15 s'.pc ∧ step (s.withPc pc) = .next (s'.withPc pc') := by
  have fetch : (s.withPc pc).fetch = s.fetch := congrArg s.romRead same
  cases format : s.fetch.getLsbD 15
  case false =>
    cases (step_eq_of_isA format).symm.trans h
    refine ⟨_, low15_pcNext_congr same _ _ _, ?_⟩
    rw [step_eq_of_isA (fetch ▸ format), fetch, State.withPc_commitA]
    rfl
  case true =>
    cases (step_eq_of_isC format).symm.trans h
    refine ⟨_, low15_pcNext_congr same _ _ _, ?_⟩
    rw [step_eq_of_isC (fetch ▸ format), fetch, State.commitWord, State.withPc_commitC]
    rfl

/-- Settles O46: the second state is the first with another program counter, and so are the states after. -/
theorem pcTopBitIsUnobservable : Obligations.PcTopBitIsUnobservable := by
  unfold Obligations.PcTopBitIsUnobservable
  intro s t ⟨samePc, rest⟩
  obtain ⟨s', hs, -⟩ := exists_step_next s
  obtain ⟨pc', same, ht⟩ := step_withPc samePc.symm hs
  have t_eq : s.withPc t.pc = t := rest
  exact ⟨s', s'.withPc pc', hs, t_eq ▸ ht, same.symm, rfl⟩

/-! ## The invariant -/

theorem State.Inv.of_step {s t : State} (hs : s.Inv) (h : step s = .next t) : t.Inv := by
  rcases step_cases s with ⟨-, ht⟩ | ⟨-, ht⟩
  · cases ht.symm.trans h
    exact hs.beginTick.commitA _
  · cases ht.symm.trans h
    exact hs.beginTick.commitC _ _ _

theorem State.Inv.of_loadProgram {words : List Word} {s t : State} (hs : s.Inv) (h : loadProgram words s = .next t) :
    t.Inv := by
  rcases loadProgram_cases words s with ⟨-, ht⟩ | ⟨-, -, ht⟩ | ⟨-, fits, ht⟩
  case inr.inr =>
    cases ht.symm.trans h
    exact ⟨hs.ram, hs.screen, wf_loadedRom fits⟩
  all_goals cases ht.symm.trans h

theorem State.Inv.of_hostStep {e : HostEvent} {s t : State} (hs : s.Inv) (h : hostStep e s = .next t) : t.Inv := by
  cases e with
  | loadProgram words => exact hs.of_loadProgram h
  | poke addr word =>
    cases h
    exact hs.writeMem addr word
  | setKeyboard word =>
    cases h
    exact ⟨hs.ram, hs.screen, hs.rom⟩
  | tick reset => exact State.Inv.of_step (s := { s with resetIn := reset }) ⟨hs.ram, hs.screen, hs.rom⟩ h
  | coldReset =>
    cases h
    exact ⟨rfl, rfl, hs.rom⟩

/-- Settles O48: a step is one commit, and each commit keeps the invariant. -/
theorem stepKeepsInvariant : Obligations.StepKeepsInvariant := by
  unfold Obligations.StepKeepsInvariant
  exact fun s t => State.Inv.of_step

/-- Settles O49: each host operation keeps the invariant, so every run of them does. -/
theorem hostRunKeepsInvariant : Obligations.HostRunKeepsInvariant := by
  unfold Obligations.HostRunKeepsInvariant
  exact fun es s t => hostRun_induction State.Inv.of_hostStep

/-- Settles O47: the creation state's stores are empty. -/
theorem creationStateMeetsInvariant : Obligations.CreationStateMeetsInvariant := by
  unfold Obligations.CreationStateMeetsInvariant
  exact State.reset_inv

end Sys2Proof.Machine
end

section
/-! The computations (rules R169, R210 and R213 to R241): the closed form of each control code, the state after a
C-instruction in the statements' spelling, then the statements of section 2 of 40_alu.md and of
42_c_instruction_comp.md. -/

namespace Sys2Proof.Machine

open Sys2Proof.Statement

/-! ## The closed forms (rule R169) -/

/-- The closed forms of the 64 control codes, in the order of the codes. -/
def aluForms (x y : Word) : List Word :=
  [x &&& y, ~~~(x &&& y), x + y, -x - y - 1, x &&& ~~~y, ~~~x ||| y, x - y - 1, y - x,
    0, -1, x, ~~~x, x, ~~~x, x - 1, -x,
    ~~~x &&& y, x ||| ~~~y, y - x - 1, x - y, ~~~(x ||| y), x ||| y, -x - y - 2, x + y + 1,
    0, -1, ~~~x, x, ~~~x, x, -x - 2, x + 1,
    0, -1, y, ~~~y, 0, -1, ~~~y, y, 0, -1, 0, -1, 0, -1, -1, 0,
    y, ~~~y, y - 1, -y, ~~~y, y, -y - 2, y + 1, 0, -1, -1, 0, -1, 0, -2, 1]

/-- The closed form of a control code. -/
def aluForm (code : BitVec 6) (x y : Word) : Word := (aluForms x y).getD code.toNat 0

/-- Complement as arithmetic, in numerals that `ring` reads. -/
theorem not_eq_neg_sub_one (v : Word) : ~~~v = -v - 1 := BitVec.not_eq_neg_add v

theorem word_zero : 0x0000#16 = (0 : Word) := rfl

theorem and_ffff (v : Word) : v &&& 0xFFFF#16 = v := BitVec.and_allOnes

theorem ffff_and (v : Word) : 0xFFFF#16 &&& v = v := BitVec.allOnes_and

/-- Every code computes its closed form: the codes of the AND by de Morgan, those of the sum because a complement is
`-v - 1` and the words are a ring. -/
theorem aluOut_eq_aluForm (x y : Word) (ctl : AluCtl) : aluOut x y ctl = aluForm ctl.code x y := by
  obtain ⟨zx, nx, zy, ny, f, no⟩ := ctl
  cases f
  case false =>
    cases zx <;> cases nx <;> cases zy <;> cases ny <;> cases no <;>
      simp [aluOut, zeroThenNot, combine, aluForm, aluForms, AluCtl.code, BitVec.not_and, BitVec.not_or, and_ffff,
        ffff_and]
  case true =>
    cases zx <;> cases nx <;> cases zy <;> cases ny <;> cases no <;>
      simp only [aluOut, zeroThenNot, combine, aluForm, aluForms, AluCtl.code, if_true, if_false, Bool.false_eq_true,
        BitVec.ofBool_true, BitVec.ofBool_false, BitVec.reduceAppend, BitVec.toNat_ofNat, List.getD_cons_succ,
        List.getD_cons_zero, not_eq_neg_sub_one, word_zero] <;> ring

theorem alu_ofCode_out (x y : Word) (code : BitVec 6) : (alu x y (AluCtl.ofCode code)).out = aluForm code x y := by
  rw [alu_out, aluOut_eq_aluForm, AluCtl.code_ofCode]

/-- Settles O9: the ALU gives the closed form of every code, and the statement's four rows list those forms. -/
theorem aluAllControlCodes : Obligations.AluAllControlCodes := by
  unfold Obligations.AluAllControlCodes
  intro x y
  simp only [alu_ofCode_out]
  exact ⟨List.map_inj_left.mp rfl, List.map_inj_left.mp rfl, List.map_inj_left.mp rfl, List.map_inj_left.mp rfl⟩

/-! ## The state after a C-instruction (rules R210 and R280) -/

/-- The condition on the flags is the condition on the output read as a signed number. -/
theorem jumpTaken_flags_iff (jump : Jump) (out : Word) :
    jumpTaken jump (zeroFlag out) (negFlag out) = true ↔
      (jump.ifNeg = true ∧ out.toInt < 0) ∨ (jump.ifZero = true ∧ out = 0x0000#16) ∨
        (jump.ifPos = true ∧ 0 < out.toInt) := by
  rw [← negFlag_eq_true_iff, ← zeroFlag_eq_true_iff, ← flags_clear_iff]
  simp only [jumpTaken, Bool.or_eq_true, Bool.and_eq_true, Bool.not_eq_true', or_assoc, and_assoc,
    and_comm (a := zeroFlag out = false)]

theorem pcNext_of_incremented (pc input : Word) (load reset : Bool) :
    pcNext pc input load true reset = if reset then 0x0000#16 else if load then input else pc + 1 := rfl

/-- The commit of an ALU result is the statements' state after its output. -/
theorem State.commitC_alu (s : State) (x y : Word) (ctl : AluCtl) (dest : Dest) (jump : Jump) :
    s.commitC (alu x y ctl) dest jump = afterC s (alu x y ctl).out dest jump := by
  apply State.ext
  case pc => simp only [State.commitC_pc, pcNext_of_incremented, alu_zr, alu_ng, jumpTaken_flags_iff, afterC]
  case ram => exact s.commitC_ram _ dest jump
  case screen => exact s.commitC_screen _ dest jump
  case kbd => exact s.commitC_kbd _ dest jump
  case rom => exact s.commitC_rom _ dest jump
  case resetIn => exact s.commitC_resetIn _ dest jump
  case loadOpen => exact s.commitC_loadOpen _ dest jump
  all_goals rfl

section Gives

variable {i : Instr} {y : YSource} {dest : Dest} {jump : Jump} {s : State}

/-- An instruction whose meaning is a C-instruction gives that one's ALU output. -/
theorem gives_of_meaning {ctl : AluCtl} (meaning : exec i s = execC y ctl dest jump s) :
    Gives i s (alu s.d (s.yOperand y) ctl).out dest jump := by
  rw [Gives, meaning, execC_next, State.commitC_alu]
  rfl

/-- An instruction gives the closed form of its code at D and its operand. -/
theorem gives_of_form {code : BitVec 6} {out : Word} (meaning : exec i s = execC y (AluCtl.ofCode code) dest jump s)
    (form : aluForm code s.d (s.yOperand y) = out) : Gives i s out dest jump := by
  rw [← form, ← alu_ofCode_out]
  exact gives_of_meaning meaning

end Gives

/-! ## The named computations (rules R213 to R240) -/

/-- Settles O22: the codes' closed forms are the constants. -/
theorem constantsCompute : Obligations.ConstantsCompute := by
  unfold Obligations.ConstantsCompute
  intro dest jump s
  exact ⟨gives_of_form rfl rfl, gives_of_form rfl rfl, gives_of_form rfl rfl⟩

/-- Settles O23: the codes' closed forms are the operands. -/
theorem passThroughComputes : Obligations.PassThroughComputes := by
  unfold Obligations.PassThroughComputes
  intro dest jump s
  exact ⟨gives_of_form rfl rfl, gives_of_form rfl rfl, gives_of_form rfl rfl⟩

/-- Settles O24: the closed forms are complements, and a complement is the difference from 0xFFFF. -/
theorem complementComputes : Obligations.ComplementComputes := by
  unfold Obligations.ComplementComputes
  intro dest jump s
  have complement (v : Word) : ~~~v = 0xFFFF#16 - v := (BitVec.allOnes_sub_eq_not v).symm
  exact ⟨gives_of_form rfl (complement _), gives_of_form rfl (complement _), gives_of_form rfl (complement _)⟩

/-- Settles O25: the closed forms are negations, and a negation is the difference from 0. -/
theorem negationComputes : Obligations.NegationComputes := by
  unfold Obligations.NegationComputes
  intro dest jump s
  have negation (v : Word) : -v = 0x0000#16 - v := (BitVec.zero_sub v).symm
  exact ⟨gives_of_form rfl (negation _), gives_of_form rfl (negation _), gives_of_form rfl (negation _)⟩

/-- Settles O26: the codes' closed forms are the six outputs. -/
theorem incrementAndDecrementCompute : Obligations.IncrementAndDecrementCompute := by
  unfold Obligations.IncrementAndDecrementCompute
  intro dest jump s
  and_intros
  all_goals exact gives_of_form rfl rfl

/-- Settles O27: the codes' closed forms are the six outputs. -/
theorem sumAndDifferenceCompute : Obligations.SumAndDifferenceCompute := by
  unfold Obligations.SumAndDifferenceCompute
  intro dest jump s
  and_intros
  all_goals exact gives_of_form rfl rfl

/-- Settles O28: the codes' closed forms are the four outputs. -/
theorem andOrCompute : Obligations.AndOrCompute := by
  unfold Obligations.AndOrCompute
  intro dest jump s
  and_intros
  all_goals exact gives_of_form rfl rfl

/-! ## The computations without a mnemonic (rule R241) -/

/-- Settles O29: each listed instruction's closed form is its list's constant. -/
theorem unnamedConstantsCompute : Obligations.UnnamedConstantsCompute := by
  unfold Obligations.UnnamedConstantsCompute
  intro dest jump s
  refine ⟨fun i mem => ?zero, fun i mem => ?negOne, fun i mem => ?negTwo, gives_of_form rfl rfl⟩
  all_goals
    fin_cases mem
    all_goals exact gives_of_form rfl rfl

/-- Settles O30: each listed instruction's closed form is its list's function of D. -/
theorem unnamedCodesOfD : Obligations.UnnamedCodesOfD := by
  unfold Obligations.UnnamedCodesOfD
  intro dest jump s
  refine ⟨fun i mem => ?same, fun i mem => ?complement, gives_of_form rfl rfl, gives_of_form rfl rfl,
    gives_of_form rfl rfl, fun i mem => ?negLessTwo⟩
  all_goals
    fin_cases mem
    all_goals exact gives_of_form rfl rfl

/-- Settles O31: each listed instruction's closed form is its list's function of A or of M. -/
theorem unnamedCodesOfAOrM : Obligations.UnnamedCodesOfAOrM := by
  unfold Obligations.UnnamedCodesOfAOrM
  intro dest jump s
  refine ⟨fun i mem => ?sameA, fun i mem => ?complementA, gives_of_form rfl rfl, fun i mem => ?sameM,
    fun i mem => ?complementM, gives_of_form rfl rfl⟩
  all_goals
    fin_cases mem
    all_goals exact gives_of_form rfl rfl

/-- Settles O32: the codes' closed forms are the twelve outputs. -/
theorem unnamedLogicCodes : Obligations.UnnamedLogicCodes := by
  unfold Obligations.UnnamedLogicCodes
  intro dest jump s
  and_intros
  all_goals exact gives_of_form rfl rfl

/-- Settles O33: the codes' closed forms are the ten outputs. -/
theorem unnamedArithmeticCodes : Obligations.UnnamedArithmeticCodes := by
  unfold Obligations.UnnamedArithmeticCodes
  intro dest jump s
  and_intros
  all_goals exact gives_of_form rfl rfl

/-! ## The malformed C words (rule R111) -/

/-- Settles O34: each class's meaning is the C-instruction of its fields. -/
theorem malformedCompute : Obligations.MalformedCompute := by
  unfold Obligations.MalformedCompute
  intro y ctl dest jump s out
  have out_eq : out = (alu s.d (s.yOperand y) ctl).out := by cases y <;> rfl
  rw [out_eq]
  exact ⟨gives_of_meaning rfl, gives_of_meaning rfl, gives_of_meaning rfl⟩

end Sys2Proof.Machine
end

section
/-! Jumps, the frame and the run (rules R280 to R289, R301, R310 and R312): where a C word goes, what each word leaves
unchanged, then the statements of 44_c_instruction_jump.md, of section 3 of 45_cpu_cycle.md and of section 3 of
70_reset_and_hazards.md. -/

namespace Sys2Proof

theorem destOf_eq (w : Word) : destOf w = ⟨w.getLsbD 5, w.getLsbD 4, w.getLsbD 3⟩ := by simp [destOf, Dest.ofCode]

@[simp] theorem jumpOf_ifNeg (w : Word) : (jumpOf w).ifNeg = w.getLsbD 2 := by simp [jumpOf, Jump.ofCode]
@[simp] theorem jumpOf_ifZero (w : Word) : (jumpOf w).ifZero = w.getLsbD 1 := by simp [jumpOf, Jump.ofCode]
@[simp] theorem jumpOf_ifPos (w : Word) : (jumpOf w).ifPos = w.getLsbD 0 := by simp [jumpOf, Jump.ofCode]

end Sys2Proof

namespace Sys2Proof.Machine

open Sys2Proof.Statement

/-! ## Jumps (rules R280 to R289) -/

/-- The condition on the flags, all three parts on the number. -/
theorem jumpTaken_flags_iff_toInt (jump : Jump) (out : Word) :
    jumpTaken jump (zeroFlag out) (negFlag out) = true ↔
      (jump.ifNeg = true ∧ out.toInt < 0) ∨ (jump.ifZero = true ∧ out.toInt = 0) ∨
        (jump.ifPos = true ∧ 0 < out.toInt) := by
  rw [jumpTaken_flags_iff, ← zeroFlag_eq_true_iff, zeroFlag_eq_true_iff_toInt]

/-- Settles O38: each code asks for the signs its mnemonic names, and a number has one of the three. -/
theorem jumpConditionsByMnemonic : Obligations.JumpConditionsByMnemonic := by
  unfold Obligations.JumpConditionsByMnemonic
  intro out taken
  have taken_iff (code : BitVec 3) : taken code = true ↔
      (code.getLsbD 2 = true ∧ out.toInt < 0) ∨ (code.getLsbD 1 = true ∧ out.toInt = 0) ∨
        (code.getLsbD 0 = true ∧ 0 < out.toInt) := jumpTaken_flags_iff_toInt (Jump.ofCode code) out
  rw [← Bool.not_eq_true]
  simp only [taken_iff]
  refine ⟨?never, ?gt, ?eq, ?ge, ?lt, ?ne, ?le, ?always⟩
  all_goals simp
  all_goals omega

/-- A C word's commit is the statements' state after its output. -/
theorem State.commitWord_eq_afterC (s : State) (w : Word) :
    s.commitWord w = afterC s (wordOut w s) (destOf w) (jumpOf w) := by
  rw [← State.wordResult_out]
  exact s.commitC_alu _ _ _ _ _

/-- Where a C word goes by its own bits. -/
theorem State.commitWord_pc_eq (s : State) (w : Word) : (s.commitWord w).pc =
    if s.resetIn then 0x0000#16
    else if (w.getLsbD 2 = true ∧ (wordOut w s).toInt < 0) ∨ (w.getLsbD 1 = true ∧ (wordOut w s).toInt = 0) ∨
        (w.getLsbD 0 = true ∧ 0 < (wordOut w s).toInt) then s.a
    else s.pc + 1 := by
  rw [State.commitWord_eq_afterC]
  simp only [afterC, jumpOf_ifNeg, jumpOf_ifZero, jumpOf_ifPos, ← zeroFlag_eq_true_iff, zeroFlag_eq_true_iff_toInt]

/-- Settles O39: an A word increments, and a C word goes where its condition on the output says, unless reset. -/
theorem nextPcOfEveryWord : Obligations.NextPcOfEveryWord := by
  unfold Obligations.NextPcOfEveryWord
  intro w s
  cases format : w.getLsbD 15
  case false =>
    refine ⟨_, exec_decodeWord_of_isA format s, ?_⟩
    rw [State.commitA_pc, pcNext_of_not_load]
    cases s.resetIn <;> simp
  case true =>
    refine ⟨_, exec_decodeWord_eq_commitWord format s, ?_⟩
    rw [State.commitWord_pc_eq]
    cases s.resetIn <;> simp

/-! ## Destination bits cleared (rule R301) -/

/-- Clearing the A destination of a commit leaves the old A and changes nothing else. -/
theorem State.commitC_clear_toA (s : State) (r : AluResult) (dest : Dest) (jump : Jump) :
    s.commitC r { dest with toA := false } jump = { s.commitC r dest jump with a := s.a } := by
  unfold State.commitC
  cases dest.toM <;> rfl

theorem destOf_clear_toA (w : Word) : destOf (w &&& 0xFFDF#16) = { destOf w with toA := false } := by
  rw [destOf_eq, destOf_eq]
  simp

/-- Settles O37: bit 5 is in no field but the destinations, and there it enters the new A alone. -/
theorem writingADisturbsNothingElse : Obligations.WritingADisturbsNothingElse := by
  unfold Obligations.WritingADisturbsNothingElse
  intro w s isC
  have isC' : (w &&& 0xFFDF#16).getLsbD 15 = true := by simp [isC]
  refine ⟨_, exec_decodeWord_eq_commitWord isC s, ?_⟩
  rw [exec_decodeWord_eq_commitWord isC' s, State.commitWord,
    s.wordResult_congr (ySourceOf_and w rfl) (ctlOf_and w rfl), jumpOf_and w rfl, destOf_clear_toA,
    State.commitC_clear_toA]
  rfl

/-- Settles O40: with the low six bits clear the state after the word keeps every field but pc, which no jump sets. -/
theorem noDestNoJumpOnlyAdvances : Obligations.NoDestNoJumpOnlyAdvances := by
  unfold Obligations.NoDestNoJumpOnlyAdvances
  intro w s isC clear
  have bit (i : Nat) (hi : i < 6) : w.getLsbD i = false := by
    simpa [hi] using congrArg (·.getLsbD i) clear
  rw [exec_decodeWord_eq_commitWord isC s, State.commitWord_eq_afterC]
  simp only [afterC, destOf_toA, destOf_toD, destOf_toM, jumpOf_ifNeg, jumpOf_ifZero, jumpOf_ifPos, bit,
    Nat.reduceLT, Bool.false_eq_true, false_and, or_false, if_false]

/-! ## The frame -/

/-- What a C word's commit leaves, in the order of the statement. -/
theorem State.commitWord_frame (s : State) (w : Word) :
    (w.getLsbD 5 = false → (s.commitWord w).a = s.a) ∧
    (w.getLsbD 4 = false → (s.commitWord w).d = s.d) ∧
    (w.getLsbD 3 = false → (∀ b, (s.commitWord w).readMem b = s.readMem b) ∧ (s.commitWord w).ram = s.ram ∧
      (s.commitWord w).screen = s.screen) ∧
    (∀ b, b ≠ low15 s.a → (s.commitWord w).readMem b = s.readMem b) := by
  refine ⟨fun clear => ?a, fun clear => ?d, fun clear => ⟨fun b => ?read, ?ram, ?screen⟩, fun b other => ?elsewhere⟩
  case a => rw [State.commitWord_a, clear]; rfl
  case d => rw [State.commitWord_d, clear]; rfl
  case read => rw [State.commitWord_readMem, clear]; rfl
  case ram => rw [State.commitWord, State.commitC_ram, destOf_toM, clear]; rfl
  case screen => rw [State.commitWord, State.commitC_screen, destOf_toM, clear]; rfl
  case elsewhere => rw [State.commitWord_readMem, s.readMem_writeMem_of_ne _ other, ite_self]

/-- Settles O41: an instruction is the decoded instruction of its word, so it is the commit of one format. -/
theorem frameOfEveryInstruction : Obligations.FrameOfEveryInstruction := by
  unfold Obligations.FrameOfEveryInstruction
  intro i s t h
  rw [← decodeWord_encode i] at h
  generalize encode i = w at h ⊢
  cases format : w.getLsbD 15
  case false =>
    cases (exec_decodeWord_of_isA format s).symm.trans h
    simp [State.commitA_readMem]
  case true =>
    cases (exec_decodeWord_eq_commitWord format s).symm.trans h
    obtain ⟨a, d, stored, elsewhere⟩ := s.commitWord_frame w
    simp only [Bool.true_eq_false, false_or]
    exact ⟨fun _ => a, d, stored, elsewhere, s.commitC_rom _ _ _, s.commitC_kbd _ _ _, s.commitC_resetIn _ _ _,
      s.commitC_loadOpen _ _ _⟩

/-! ## Runs (rule R312) -/

theorem run_succ_of_step {s u : State} (h : step s = .next u) (k : Nat) : core.run (k + 1) s = core.run k u := by
  have core_step : core.step s = .next u := h
  simp only [Host.Core.run, core_step]

/-- Settles O45: every tick answers a next state, so a run goes on from it. -/
theorem ticksNeverStop : Obligations.TicksNeverStop := by
  unfold Obligations.TicksNeverStop
  intro k
  induction k with
  | zero => exact fun s => ⟨s, rfl⟩
  | succ k ih =>
    intro s
    obtain ⟨u, hu, -⟩ := exists_step_next s
    obtain ⟨t, ht⟩ := ih u
    exact ⟨t, (run_succ_of_step hu k).trans ht⟩

/-! ## The fetch (rule R302) -/

/-- Settles O42: the step by its definition. -/
theorem stepRunsTheFetchedInstruction : Obligations.StepRunsTheFetchedInstruction := by
  unfold Obligations.StepRunsTheFetchedInstruction
  exact fun s => rfl

theorem tableWord_toNat (w : Word) : tableWord 16 w.toNat = w := by
  rw [tableWord, Nat.mod_eq_of_lt w.isLt, BitVec.ofNat_toNat, BitVec.setWidth_eq]

/-- Settles O43: the placed word is the one fetched, in a canonical ROM. -/
theorem placedWordRunsNext : Obligations.PlacedWordRunsNext := by
  unfold Obligations.PlacedWordRunsNext
  intro s w inv
  rw [step, State.fetch_withFetchWord inv, tableWord_toNat]

end Sys2Proof.Machine
end

section
/-! Creation and the load (rules R25, R37, R69, R70 and R370): what a ROM built from a list reads, then the statements
of 10_state.md about cells and creation and of 20_memory.md about the ROM. -/

namespace Sys2Proof.Machine

/-! ## Cells and the creation state -/

/-- Settles O14: the cell's two cases, by its definition. -/
theorem cellReturnsOldThenLoads : Obligations.CellReturnsOldThenLoads := by
  unfold Obligations.CellReturnsOldThenLoads
  exact fun cell input => ⟨rfl, rfl⟩

/-- Settles O16: the stores are empty and read as the fill word, in each region of the data memory. -/
theorem creationStateIsZero : Obligations.CreationStateIsZero := by
  unfold Obligations.CreationStateIsZero
  refine ⟨rfl, rfl, rfl, fun i => rfl, fun i => rfl, rfl, fun addr => rfl, fun addr => ?_⟩
  rw [State.readMem]
  cases route addr <;> rfl

/-! ## The ROM of a list -/

theorem Memory.read_writeList_of_lt {m : Memory} {i base : Nat} (words : List Word) (below : i < base) :
    (m.writeList base words).read i = m.read i := by
  induction words generalizing m base with
  | nil => rfl
  | cons w ws ih => exact (ih (Nat.lt_succ_of_lt below)).trans (Memory.read_write_of_ne w (Nat.ne_of_lt below))

/-- A canonical store with a list written over it reads as the list, and past its end as before. -/
theorem Memory.read_writeList {size base : Nat} {m : Memory} (words : List Word) (wf : m.wf size = true)
    (fits : base + words.length ≤ size) (i : Nat) :
    (m.writeList base words).read (base + i) = words.getD i (m.read (base + i)) := by
  induction words generalizing m base i with
  | nil => rfl
  | cons w ws ih =>
    rw [List.length_cons] at fits
    cases i with
    | zero => exact (Memory.read_writeList_of_lt ws (Nat.lt_succ_self base)).trans (Memory.read_write_same w wf)
    | succ i =>
      have rest := ih (m := m.write base w) (base := base + 1) (Memory.wf_write w wf (by omega)) (by omega) i
      rw [Nat.add_right_comm, Nat.add_assoc, Memory.read_write_of_ne w (by omega)] at rest
      exact rest

/-- A loaded ROM reads as the list, and past its end as 0 (decision D4). -/
theorem read_loadedRom {words : List Word} (fits : words.length ≤ Config.romWords) (i : Nat) :
    Memory.read (Memory.writeList [] 0 words) i = words.getD i 0x0000#16 := by
  have read := Memory.read_writeList (size := Config.romWords) (base := 0) (m := []) words rfl (by omega) i
  rwa [Nat.zero_add] at read

theorem loadProgram_of_open {s : State} (opened : s.loadOpen = true) (words : List Word) :
    loadProgram words s = if Config.romWords < words.length then .refused .programTooLong
      else .next { s with rom := Memory.writeList [] 0 words, loadOpen := false } := by
  rw [loadProgram, opened]
  rfl

/-- Settles O50: the three answers of a load, and in the one that loads the ROM of the list. -/
theorem loadProgramFillsTheRom : Obligations.LoadProgramFillsTheRom := by
  unfold Obligations.LoadProgramFillsTheRom
  intro words s
  refine ⟨fun opened fits => ?loads, fun opened long => ?tooLong, fun closed => loadProgram_of_closed closed words⟩
  case loads =>
    refine ⟨_, (loadProgram_of_open opened words).trans (if_neg (Nat.not_lt.mpr fits)), ?_, rfl, ?_⟩
    · exact fun addr => read_loadedRom fits addr.toNat
    · exact State.ext rfl rfl rfl rfl rfl rfl rfl rfl opened.symm
  case tooLong => exact (loadProgram_of_open opened words).trans (if_pos long)

theorem length_le_of_loadProgram {words : List Word} {s t : State} (h : loadProgram words s = .next t) :
    words.length ≤ Config.romWords := by
  rcases loadProgram_cases words s with ⟨-, ht⟩ | ⟨-, -, ht⟩ | ⟨-, fits, -⟩
  case inr.inr => exact fits
  all_goals cases ht.symm.trans h

/-- Settles O51: a run after the load keeps the loaded ROM, and a fetch reads it at the low 15 bits of pc. -/
theorem fetchReturnsTheLoadedWord : Obligations.FetchReturnsTheLoadedWord := by
  unfold Obligations.FetchReturnsTheLoadedWord
  intro words s₀ t es load run
  have fits := length_le_of_loadProgram load
  obtain rfl := eq_loaded_of_loadProgram_reset load
  have kept := hostRun_induction State.HoldsProgram.of_hostStep (State.loaded_holdsProgram _) run
  rw [State.fetch, State.romRead, kept.rom, read_loadedRom fits, low15]

/-- Settles O52: the fill word is the A word of value 0. -/
theorem emptyRomRunsAtZero : Obligations.EmptyRomRunsAtZero := by
  unfold Obligations.EmptyRomRunsAtZero
  intro s empty
  have fetch : s.fetch = 0x0000#16 := by
    rw [State.fetch, State.romRead, empty]
    rfl
  rw [step_eq_of_isA (fetch ▸ rfl), fetch, State.commitA, pcNext_of_not_load]
  rfl

end Sys2Proof.Machine
end

section
/-! The symbol table through both passes (rules R121 to R124): what one line does to the table, what a pass keeps, and
where a label is bound, then the statements of sections 8 and 9 of 30_encoding.md about symbols. -/

namespace Sys2Proof.Machine

open Sys2Proof.Statement

/-! ## What one line does to the table -/

/-- A label's name is a symbol (rule R121). -/
theorem isSymbol_of_classify_label {line name : Text} (h : classify line = .label name) : isSymbol name = true := by
  rw [classify] at h
  split at h
  case h_2 rest _ =>
    split at h
    case isTrue ok =>
      cases h
      exact (Bool.and_eq_true_iff.mp ok).2
    case isFalse => cases h
  all_goals cases h

/-- The table with a name bound to the next variable address (rule R123). -/
def SymbolTable.addVariable (t : SymbolTable) (name : Text) : SymbolTable :=
  { binds := t.binds ++ [(name, t.nextVar)], nextVar := t.nextVar + 1 }

/-- The operand of `@` leaves the table, or adds a variable for a symbol that is not bound. -/
theorem decodeAt_table {operand : Text} {t t' : SymbolTable} {i : Instr} (h : decodeAt operand t = .ok (i, t')) :
    t' = t ∨ isSymbol operand = true ∧ t.lookup operand = none ∧ t' = t.addVariable operand := by
  rw [decodeAt] at h
  split at h
  case h_1 =>
    obtain ⟨v, pair⟩ := eq_atValue_of_atOf_map h
    exact .inl (Prod.mk.inj pair).2.symm
  case h_2 =>
    split at h
    case isFalse => cases h
    case isTrue symbol =>
      split at h
      all_goals obtain ⟨v, pair⟩ := eq_atValue_of_atOf_map h
      case h_1 => exact .inl (Prod.mk.inj pair).2.symm
      case h_2 new => exact .inr ⟨symbol, new, (Prod.mk.inj pair).2.symm⟩

/-- A line that decodes leaves the table, or adds a variable for a symbol that is not bound. -/
theorem decodeAssembly_table {line : Text} {t t' : SymbolTable} {i : Instr}
    (h : decodeAssembly line t = .ok (i, t')) :
    t' = t ∨ ∃ name, isSymbol name = true ∧ t.lookup name = none ∧ t' = t.addVariable name := by
  rcases decodeAssembly_cases h with ⟨operand, at_⟩ | ⟨-, same⟩
  · exact (decodeAt_table at_).imp id (fun added => ⟨operand, added⟩)
  · exact .inl same

/-! ## What a pass keeps -/

/-- What the binding of every label of the lines keeps, pass 1 keeps. -/
theorem bindLabels_induction {P : SymbolTable → Prop} {lines : List Text}
    (keeps : ∀ {t : SymbolTable} {line name : Text} (addr : Word), line ∈ lines → classify line = .label name → P t →
      P (t.bind name addr))
    (n : Nat) {t : SymbolTable} (ht : P t) : P (bindLabels lines n t) := by
  induction lines generalizing n t with
  | nil => exact ht
  | cons line lines ih =>
    have rest (n : Nat) {t : SymbolTable} (ht : P t) : P (bindLabels lines n t) :=
      ih (fun addr mem => keeps addr (List.mem_cons_of_mem _ mem)) n ht
    rw [bindLabels]
    split
    case h_1 name label => exact rest n (keeps _ List.mem_cons_self label ht)
    all_goals exact rest _ ht

/-- What every new variable keeps, pass 2 keeps. -/
theorem decodeLines_induction {P : SymbolTable → Prop}
    (keeps : ∀ {t : SymbolTable} {name : Text}, isSymbol name = true → t.lookup name = none → P t →
      P (t.addVariable name))
    (lines : List Text) (n : Nat) {t : SymbolTable} (ht : P t) : P (decodeLines lines n t).2 := by
  induction lines generalizing n t with
  | nil => exact ht
  | cons line lines ih =>
    rw [decodeLines]
    split
    case h_1 i t' decoded =>
      rcases decodeAssembly_table decoded with rfl | ⟨name, symbol, new, rfl⟩
      · exact ih _ ht
      · exact ih _ (keeps symbol new ht)
    all_goals exact ih _ ht

/-! ## Well-formed tables -/

theorem SymbolTable.wf_bind {t : SymbolTable} (wf : t.wf = true) {name : Text} (symbol : isSymbol name = true)
    (addr : Word) : (t.bind name addr).wf = true := by
  cases bound : t.lookup name with
  | some v => rwa [SymbolTable.bind_of_lookup bound]
  | none =>
    rw [SymbolTable.bind_of_lookup_none bound]
    exact SymbolTable.wf_append wf symbol bound addr _

/-- Settles O54: both passes bind symbols alone, and a name only where it is not bound. -/
theorem symbolTableStaysWellFormed : Obligations.SymbolTableStaysWellFormed := by
  unfold Obligations.SymbolTableStaysWellFormed
  refine ⟨by decide, fun lines n t wf => ⟨?pass1, ?pass2⟩⟩
  case pass1 =>
    exact bindLabels_induction (P := (·.wf = true))
      (fun addr _ label wf => SymbolTable.wf_bind wf (isSymbol_of_classify_label label) addr) n wf
  case pass2 =>
    exact decodeLines_induction (P := (·.wf = true)) (fun symbol new wf => SymbolTable.wf_append wf symbol new _ _)
      lines n wf

/-! ## Bound names -/

theorem SymbolTable.lookup_addVariable (t : SymbolTable) (name other : Text) :
    (t.addVariable name).lookup other = (t.lookup other).or (if name = other then some t.nextVar else none) :=
  SymbolTable.lookup_append t.binds _ t.nextVar name other t.nextVar

theorem lookup_bindLabels_of_lookup {t : SymbolTable} {name : Text} {v : Word} (bound : t.lookup name = some v)
    (lines : List Text) (n : Nat) : (bindLabels lines n t).lookup name = some v := by
  refine bindLabels_induction (P := (·.lookup name = some v)) (fun addr _ _ bound => ?_) n bound
  rw [SymbolTable.lookup_bind, bound]
  rfl

theorem lookup_decodeLines_of_lookup {t : SymbolTable} {name : Text} {v : Word} (bound : t.lookup name = some v)
    (lines : List Text) (n : Nat) : (decodeLines lines n t).2.lookup name = some v := by
  refine decodeLines_induction (P := (·.lookup name = some v)) (fun _ _ bound => ?_) lines n bound
  rw [SymbolTable.lookup_addVariable, bound]
  rfl

/-- Settles O55: no binding of either pass changes the answer for a bound name. -/
theorem boundSymbolsKeepTheirAddress : Obligations.BoundSymbolsKeepTheirAddress := by
  unfold Obligations.BoundSymbolsKeepTheirAddress
  exact fun lines n v t name bound =>
    ⟨lookup_bindLabels_of_lookup bound lines n, lookup_decodeLines_of_lookup bound lines n⟩

/-! ## `@name` (rules R119 and R123) -/

/-- The constant of an address that fits 15 bits is the address's low 15 bits. -/
theorem atOf_word_of_le {v : Word} (fits : v.toNat ≤ Config.maxValue) :
    atOf v.toNat = .ok (.atValue (v.extractLsb' 0 15)) := by
  rw [atOf_of_le fits]
  rfl

section AtName

variable {name : Text} {t : SymbolTable} (symbol : isSymbol name = true)
include symbol

theorem decodeAssembly_at_bound {v : Word} (bound : t.lookup name = some v) :
    decodeAssembly ('@' :: name) t = (atOf v.toNat).map (fun i => (i, t)) := by
  rw [decodeAssembly_at (plain_of_isSymbol symbol), decodeAt, parseDecimal_of_isSymbol symbol]
  simp only [symbol, if_true, bound]

theorem decodeAssembly_at_new (new : t.lookup name = none) :
    decodeAssembly ('@' :: name) t = (atOf t.nextVar.toNat).map (fun i => (i, t.addVariable name)) := by
  rw [decodeAssembly_at (plain_of_isSymbol symbol), decodeAt, parseDecimal_of_isSymbol symbol]
  simp only [symbol, if_true, new, SymbolTable.addVariable]

end AtName

/-- Settles O56: `@name` encodes the address of the name, the next variable's if it has none, where that fits. -/
theorem variablesInFirstSeenOrder : Obligations.VariablesInFirstSeenOrder := by
  unfold Obligations.VariablesInFirstSeenOrder
  refine ⟨rfl, fun name t symbol => ⟨fun new fits => ?new, fun new above => ?newAbove, fun v bound fits => ?bound,
    fun v bound above => ?boundAbove⟩⟩
  case new =>
    refine ⟨t.addVariable name, ?_, ?_, rfl, fun other ne => ?_⟩
    · rw [decodeAssembly_at_new symbol new, atOf_word_of_le fits]
      rfl
    · simp [SymbolTable.lookup_addVariable, new]
    · simp [SymbolTable.lookup_addVariable, Ne.symm ne]
  case newAbove =>
    rw [decodeAssembly_at_new symbol new, atOf_of_lt above]
    rfl
  case bound =>
    rw [decodeAssembly_at_bound symbol bound, atOf_word_of_le fits]
    rfl
  case boundAbove =>
    rw [decodeAssembly_at_bound symbol bound, atOf_of_lt above]
    rfl

/-! ## Labels (rules R121 and R124) -/

theorem codeLines_cons (line : Text) (lines : List Text) :
    codeLines (line :: lines) = (match classify line with | .code _ => 1 | _ => 0) + codeLines lines := by
  unfold codeLines
  rw [List.filter_cons]
  cases classify line <;> simp [Nat.add_comm]

/-- Pass 1 over lines and then the rest: the rest starts at the count of the instruction lines before it. -/
theorem bindLabels_append (before rest : List Text) (n : Nat) (t : SymbolTable) :
    bindLabels (before ++ rest) n t = bindLabels rest (n + codeLines before) (bindLabels before n t) := by
  induction before generalizing n t with
  | nil => rfl
  | cons line before ih =>
    rw [List.cons_append, bindLabels, bindLabels, codeLines_cons]
    cases classify line <;> simp [ih, Nat.add_assoc]

/-- Pass 1 over lines that do not define a name leaves it unbound. -/
theorem lookup_bindLabels_of_no_label {name : Text} {lines : List Text} (n : Nat) {t : SymbolTable}
    (new : t.lookup name = none) (other : ∀ l ∈ lines, classify l ≠ .label name) :
    (bindLabels lines n t).lookup name = none := by
  refine bindLabels_induction (P := (·.lookup name = none)) (fun {_ line name'} addr mem label new => ?_) n new
  have ne : name' ≠ name := fun e => other line mem (e ▸ label)
  rw [SymbolTable.lookup_bind, new, if_neg ne]
  rfl

/-- Settles O57: pass 1 reaches the line with the count of the instruction lines before it and the name unbound, and
binds it; nothing after changes that binding. -/
theorem labelsBindTheNextAddress : Obligations.LabelsBindTheNextAddress := by
  unfold Obligations.LabelsBindTheNextAddress
  intro before after line name label new first
  have bound : (fromAssemblyArray (before ++ line :: after)).2.lookup name =
      some (labelAddress (codeLines before)) := by
    refine lookup_decodeLines_of_lookup ?_ _ _
    rw [bindLabels_append, bindLabels, label, Nat.zero_add]
    refine lookup_bindLabels_of_lookup ?_ _ _
    rw [SymbolTable.lookup_bind, lookup_bindLabels_of_no_label 0 new first, if_pos rfl]
    rfl
  refine ⟨fun fits => ⟨_, bound, labelAddress_toNat fits⟩, fun above => ?_⟩
  rw [bound, labelAddress_of_lt above]

end Sys2Proof.Machine
end
